-- ==== Sys2Proof/Word.lean ====
section
/-! DEFINITION. The plain words of the JP-416: bytes, wrapping purse sequences, and the two fixed
tables (eight and sixteen places) that the spec's collections of eight and sixteen use. -/

namespace Sys2Proof

/-- One byte of a frame or of a card block (13 R198). -/
abbrev Byte := BitVec 8

/-- A purse sequence, 0 to 65535, that wraps (00 "Sequence order", 01 R5). -/
abbrev Seq := BitVec 16

/-- Eight places, one for each lane address, period index or tariff group. -/
structure Eight (α : Type) where
  p0 : α
  p1 : α
  p2 : α
  p3 : α
  p4 : α
  p5 : α
  p6 : α
  p7 : α
  deriving DecidableEq, Repr

namespace Eight

def fill {α : Type} (x : α) : Eight α := ⟨x, x, x, x, x, x, x, x⟩

def get {α : Type} (t : Eight α) (i : Fin 8) : α :=
  match i with
  | 0 => t.p0
  | 1 => t.p1
  | 2 => t.p2
  | 3 => t.p3
  | 4 => t.p4
  | 5 => t.p5
  | 6 => t.p6
  | 7 => t.p7

def set {α : Type} (t : Eight α) (i : Fin 8) (x : α) : Eight α :=
  match i with
  | 0 => { t with p0 := x }
  | 1 => { t with p1 := x }
  | 2 => { t with p2 := x }
  | 3 => { t with p3 := x }
  | 4 => { t with p4 := x }
  | 5 => { t with p5 := x }
  | 6 => { t with p6 := x }
  | 7 => { t with p7 := x }

def map {α β : Type} (f : α → β) (t : Eight α) : Eight β :=
  ⟨f t.p0, f t.p1, f t.p2, f t.p3, f t.p4, f t.p5, f t.p6, f t.p7⟩

def toList {α : Type} (t : Eight α) : List α :=
  [t.p0, t.p1, t.p2, t.p3, t.p4, t.p5, t.p6, t.p7]

end Eight

/-- Sixteen places: the station ids A1 to A8 and B1 to B8, or the range entries 0 to 15. -/
structure Sixteen (α : Type) where
  lo : Eight α
  hi : Eight α
  deriving DecidableEq, Repr

namespace Sixteen

def fill {α : Type} (x : α) : Sixteen α := ⟨Eight.fill x, Eight.fill x⟩

def map {α β : Type} (f : α → β) (t : Sixteen α) : Sixteen β := ⟨t.lo.map f, t.hi.map f⟩

def toList {α : Type} (t : Sixteen α) : List α := t.lo.toList ++ t.hi.toList

/-- The place numbered `n`, counting the low eight first. -/
def getN {α : Type} (t : Sixteen α) (n : Fin 16) : α :=
  if h : n.val < 8 then t.lo.get ⟨n.val, h⟩ else t.hi.get ⟨n.val - 8, by omega⟩

def setN {α : Type} (t : Sixteen α) (n : Fin 16) (x : α) : Sixteen α :=
  if h : n.val < 8 then { t with lo := t.lo.set ⟨n.val, h⟩ x }
  else { t with hi := t.hi.set ⟨n.val - 8, by omega⟩ x }

end Sixteen

end Sys2Proof
end

