-- ==== Sys2Proof/Syntax.lean ====
section
/-! DEFINITION. What crosses the part's edge: card images, station requests, host requests, and the
commands themselves, one constructor of `Instr` for each row of spec/opcode_table.json. -/

namespace Sys2Proof.Machine

open Sys2Proof

/-- The two till lanes. -/
inductive Lane where
  | a
  | b
  deriving DecidableEq, Repr

/-- A station id, A1 to B8; `addr` 0 to 7 stands for the lane addresses 1 to 8. -/
structure StationId where
  lane : Lane
  addr : Fin 8
  deriving DecidableEq, Repr

/-- A time: day number and hall minute (00 "Hall time"). -/
structure Time where
  day : Nat
  minute : Nat
  deriving DecidableEq, Repr

/-- A period stamp: day number and period index (00 "Period stamp"). -/
structure Stamp where
  day : Nat
  period : Nat
  deriving DecidableEq, Repr

inductive PeriodKind where
  | meal
  | closed
  deriving DecidableEq, Repr

/-- One entry of the period schedule (08 R130). -/
structure PeriodEntry where
  start : Nat
  kind : PeriodKind
  deriving DecidableEq, Repr

/-- One entry as SET_PERIODS carries it: its kind is none where it is neither MEAL nor CLOSED (08 R131). -/
structure AskedPeriod where
  start : Nat
  kind : Option PeriodKind
  deriving DecidableEq, Repr

/-- The two roles ENROLL gives; NONE is the absence of one (09 R146). -/
inductive Role where
  | cashier
  | supervisor
  deriving DecidableEq, Repr

inductive LaneMode where
  | off
  | paused
  | running
  deriving DecidableEq, Repr

/-- The recovery modes of 10 R170. -/
inductive RecoveryMode where
  | auto
  | holdAtDrop
  | holdAfter
  | hostOnly
  deriving DecidableEq, Repr

/-- The error record modes of 10 R173. -/
inductive ErrorMode where
  | first
  | all
  deriving DecidableEq, Repr

/-- The set a TARIFF_LIST names (08 R143). -/
inductive TariffSetName where
  | active
  | staged
  deriving DecidableEq, Repr

/-- A price list item (02 R18); `mask` holds one flag for each period index. -/
structure PriceItem where
  code : Nat
  price : Nat
  mask : Eight Bool
  deriving DecidableEq, Repr

/-- A tariff group's figures (02 R19). -/
structure GroupFigures where
  subsidy : Eight Nat
  allowance : Eight Nat
  dailyCap : Nat
  overdraft : Nat
  deriving DecidableEq, Repr

/-- The card's identity block as read, with the widths of 13.4 (01 R3). -/
structure IdentityBlock where
  card : BitVec 32
  issueDay : BitVec 16
  kind : BitVec 8
  check : BitVec 8
  deriving DecidableEq, Repr

/-- A purse slot, with the widths of 13.4 (01 R5). -/
structure PurseSlot where
  sequence : Seq
  balance : BitVec 24
  writerHall : BitVec 8
  writerSale : BitVec 16
  stampDay : BitVec 16
  allowanceUsed : BitVec 16
  stampPeriod : BitVec 3
  spendToday : BitVec 21
  check : BitVec 8
  deriving DecidableEq, Repr

/-- A card image: the identity image and the two slot images, each present or absent (01 R2). -/
structure CardImage where
  identity : IdentityBlock
  slot0 : Option PurseSlot
  slot1 : Option PurseSlot
  deriving DecidableEq, Repr

/-- One line of a basket as carried: item code (2 bytes) and quantity (1 byte) (02 R21, 13.3). -/
structure BasketLine where
  code : BitVec 16
  quantity : BitVec 8
  deriving DecidableEq, Repr

/-- The requests a station's answer may carry (09 R152, 13.3). -/
inductive StationRequest where
  | saleOpen (image : CardImage) (basket : List BasketLine)
  | reverse (image : CardImage)
  | saleDone (sale : BitVec 16)
  | saleTorn (sale : BitVec 16)
  | saleCancel (sale : BitVec 16)
  deriving DecidableEq, Repr

/-- The 45 requests of the host, in the order of 12 R189's table of owners, each with the fields its
rule carries. A lane letter or station id that names no lane is `none` (R189 test 4). Numeric fields
hold what the frame carried, in range or not (13 R198). -/
inductive HostRequest where
  | creditOrder (order card amount : Nat)
  | cancelCredit (order : Nat)
  | queryCredits (position : Nat)
  | queryCard (card : Nat)
  | doubtDismiss (card sale : Nat)
  | doubtList (position : Nat)
  | saleList
  | writeTimerSet (seconds : Nat)
  | stopAdd (cards : List Nat)
  | stopRemove (cards : List Nat)
  | stopClear
  | stopList (position : Nat)
  | rangeSet (entry first last group : Nat) (purse allowance : Bool)
  | rangeClear (entry : Nat)
  | rangeDefault (group : Option Nat)
  | rangeList
  | classQuery (card : Nat)
  | tariffBegin
  | tariffItems (items : List PriceItem)
  | tariffGroup (group : Nat) (figures : GroupFigures)
  | tariffEnd (expected : Nat)
  | tariffSwapNow
  | tariffList (set : TariffSetName) (position : Nat)
  | setClock (day minute : Nat)
  | setPeriods (entries : List AskedPeriod)
  | clockRead
  | laneSet (lane : Option Lane) (mode : LaneMode)
  | laneSettings (lane : Option Lane) (recovery : RecoveryMode) (errors : ErrorMode)
      (timeout waitLimit : Nat)
  | enroll (station : Option StationId) (role : Role)
  | release (station : Option StationId)
  | restore (station : Option StationId)
  | clearStationErrors (station : Option StationId)
  | clearLineStuck (lane : Option Lane)
  | laneRead (lane : Option Lane)
  | journalFetch
  | journalRelease (number : Nat)
  | totalsRead (station : Option StationId)
  | dayClose
  | setHall (hall : Nat)
  | openHall
  | suspend
  | resume
  | status
  | softReset
  | clearAll (hall : Option Nat)
  deriving DecidableEq, Repr

end Sys2Proof.Machine

namespace Sys2Proof

open Sys2Proof.Machine

/-- The commands: one constructor for each row of spec/opcode_table.json, in the table's order. A
command that takes a request finds the request's fields where the request waits (the work queue or
the owning block's inbox), so it has no operands of its own beyond the lane concerned. -/
inductive Instr where
  /-- `bytes` arrive on the office line; `reading` is what the body of the frame they complete reads
  as where R198 does not fix that by the bytes (none: it cannot be read as the request its kind names). -/
  | officeFrameReceived (bytes : List Byte) (reading : Option HostRequest)
  | officeByteGapTimeout
  | frameSendStart
  | frameSentInFull
  | creditOrder
  | cancelCredit
  | queryCredits
  | queryCard
  | doubtDismiss
  | doubtList
  | saleList
  | writeTimerSet
  | stopAdd
  | stopRemove
  | stopClear
  | stopList
  | rangeSet
  | rangeClear
  | rangeDefault
  | rangeList
  | classQuery
  | tariffBegin
  | tariffItems
  | tariffGroup
  | tariffEnd
  | tariffSwapNow
  | tariffList
  | setClock
  | setPeriods
  | clockRead
  | laneSet (lane : Lane)
  | laneSettings (lane : Lane)
  | enroll (lane : Lane)
  | release (lane : Lane)
  | restore (lane : Lane)
  | clearStationErrors (lane : Lane)
  | clearLineStuck (lane : Lane)
  | laneRead (lane : Lane)
  | journalFetch
  | journalRelease
  | totalsRead
  | dayClose
  | setHall
  | openHall
  | suspend
  | resume
  | status
  | softReset
  | clearAll
  | sendPoll (lane : Lane)
  /-- `bytes` arrive on the lane while an answer is awaited. -/
  | laneAnswer (lane : Lane) (bytes : List Byte)
  | answerTimeout (lane : Lane)
  | lineStuck (lane : Lane)
  | lineIdleResume (lane : Lane)
  | saleOpen
  | reverse
  | saleDone
  | saleTorn
  | saleCancel
  | deliveryEvent
  /-- The write timer of the context with this sale number expires. -/
  | writeTimerExpiry (sale : Nat)
  | lossEvent
  | minuteAdvance
  | tariffBoundarySwap
  | periodCounterCapture
  | mainSupplyLoss
  | mainSupplyReturn
  | backupFailure
  | resetLineAssert
  | resetLineRelease
  | warmStart
  | coldStart
  | secondsCountAdvance
  | officeStartMarker
  /-- The two length bytes received after a start marker. -/
  | frameLengthOverLimit (length : BitVec 16)
  deriving DecidableEq, Repr

end Sys2Proof
end

