-- ==== Sys2Proof/Decode.lean ====
section
/-! DEFINITION. The commands that a word spells. spec/opcode_table.json gives no row any bits, so no word
spells one. The frames that do cross the part's pins are read in Machine/Formats.lean. -/

namespace Sys2Proof

/-- The command that the `nbits` low bits of `w` spell by the table: none, for no row has bits. -/
def decodeTableWord (_nbits _w : Nat) : Option Instr := none

end Sys2Proof
end

