-- ==== Sys2Proof/Machine/Records.lean ====
section
/-! DEFINITION. The records the blocks keep and the replies, reports and polls they give out, each
field as its rule names it. -/

namespace Sys2Proof.Machine

open Sys2Proof

/-- The outcome words, in the order of 00 "Names written in capitals" (their code in 13 R198). -/
inductive OutcomeWord where
  | ok | writeOrder | balance | cashOnly | late
  | badRequest | notPermitted | notServing | closedPeriod | wrongState | wrongMode | tagInUse
  | hostBusy | stationBusy | cardDamaged | cardStopped | cardUnknown | cardInUse | stalePurse
  | itemUnknown | itemNotNow | basketTooLarge | capReached | insufficient | journalFull
  | noSuchSale | alreadyClosed | notReversible | duplicateOrder | noSuchOrder | orderRiding
  | listFull | tariffNotReady | countMismatch | clockBackward
  deriving DecidableEq, Repr

/-! ### Cards and sales -/

inductive CardKind where
  | staff
  | contractor
  | visitor
  deriving DecidableEq, Repr

/-- The kinds of a sale context (02 R30). -/
inductive SaleKind where
  | sale
  | credit
  | reversal
  deriving DecidableEq, Repr

/-- A slot's writer mark (01 R5). -/
structure WriterMark where
  hall : Nat
  sale : Nat
  deriving DecidableEq, Repr

inductive SlotIndex where
  | zero
  | one
  deriving DecidableEq, Repr

/-- The priced figures (02 R30, R39): negative for a reversal. -/
structure Figures where
  g : Int
  s : Int
  a : Int
  c : Int
  k : Int
  deriving DecidableEq, Repr

/-- What a sale context and the Doubt List entry made from it both hold (04 R63, 05 R88). -/
structure SaleData where
  sale : Nat
  station : StationId
  card : Nat
  cardKind : CardKind
  kind : SaleKind
  stamp : Stamp
  generation : Nat
  figures : Figures
  riding : List Nat
  expected : Seq
  newBalance : Int
  reversed : Option Nat
  deriving DecidableEq, Repr

/-- PRICED_UNSENT, or WRITE_ORDERED with the whole seconds left on the write timer (04 R63, R74). -/
inductive ContextState where
  | pricedUnsent
  | writeOrdered (timer : Nat)
  deriving DecidableEq, Repr

/-- A sale context (04 R63). -/
structure Context where
  data : SaleData
  target : SlotIndex
  slot : PurseSlot
  state : ContextState
  deriving DecidableEq, Repr

inductive DoubtCause where
  | torn
  | timer
  | stationLost
  | warmStart
  deriving DecidableEq, Repr

/-- A Doubt List entry (05 R88). -/
structure DoubtEntry where
  data : SaleData
  created : Time
  cause : DoubtCause
  deriving DecidableEq, Repr

/-- The ends a last-closed note records (04 R76). -/
inductive SaleEnd where
  | committed
  | voided
  | committedLate
  | voidedAfterDoubt
  | unresolved
  deriving DecidableEq, Repr

/-- The ways a doubt entry ends (05 R95); `card` names the presenting station and Q. -/
inductive DoubtWay where
  | card (presenting : StationId) (q : Seq)
  | lateDone
  | lateCancel
  | pushOut
  | dismiss
  deriving DecidableEq, Repr

/-- A last-closed note (04 R56, R76). -/
structure ClosedNote where
  sale : Nat
  how : SaleEnd
  deriving DecidableEq, Repr

inductive OrderState where
  | pending
  | riding (sale : Nat)
  deriving DecidableEq, Repr

/-- A credit order (06 R104). -/
structure CreditOrder where
  id : Nat
  card : Nat
  amount : Nat
  state : OrderState
  deriving DecidableEq, Repr

/-- The last-sale part of a Card Memory record (07 R122). -/
structure LastSale where
  sale : Nat
  journal : Nat
  kind : SaleKind
  c : Int
  a : Int
  stamp : Stamp
  seqAfter : Seq
  reversed : Bool
  deriving DecidableEq, Repr

/-- A Card Memory record (07 R117). -/
structure CardRecord where
  card : Nat
  seq : Seq
  balance : Int
  writer : WriterMark
  lastSeen : Time
  inUse : Option StationId
  doubt : Bool
  lastSale : Option LastSale
  deriving DecidableEq, Repr

/-! ### Classes -/

/-- A range of the range table (03 R44). -/
structure CardRange where
  first : Nat
  last : Nat
  group : Nat
  purse : Bool
  allowance : Bool
  deriving DecidableEq, Repr

/-- The decoder's results (03 R41); `entry` is the range entry that decided, none for the default. -/
inductive ClassResult where
  | stopped
  | unknown
  | purse (group : Nat) (allowance : Bool) (entry : Nat)
  | cashOnly (group : Nat) (entry : Option Nat)
  deriving DecidableEq, Repr

inductive StopResult where
  | added
  | already
  | full
  | removed
  | absent
  deriving DecidableEq, Repr

/-! ### Tariffs and the clock -/

/-- A tariff set: a price list in ascending code order and eight groups (02 R18, R19; 08 R136). -/
structure TariffSet where
  items : List PriceItem
  groups : Eight GroupFigures
  deriving DecidableEq, Repr

inductive StagingName where
  | empty
  | filling
  | ready
  deriving DecidableEq, Repr

inductive BoundaryCause where
  | minute
  | day
  | setClock
  | setPeriods
  | warmStart
  deriving DecidableEq, Repr

/-- A boundary event (08 R134), with the hall time at which it was raised. -/
structure BoundaryEvent where
  former : Stamp
  current : Stamp
  kind : PeriodKind
  cause : BoundaryCause
  time : Time
  deriving DecidableEq, Repr

inductive SwapCause where
  | boundary
  | host
  deriving DecidableEq, Repr

/-! ### The journal and the totals -/

inductive RecordKind where
  | sale
  | credit
  | reversal
  | cash
  deriving DecidableEq, Repr

inductive RecordOutcome where
  | committed
  | committedLate
  | voidedAfterDoubt
  | unresolved
  deriving DecidableEq, Repr

/-- What the Sale Engine gives the journal for one record (11 R177, less number and time). -/
structure RecordBody where
  kind : RecordKind
  outcome : RecordOutcome
  station : StationId
  card : Nat
  cardKind : CardKind
  sale : Nat
  stamp : Stamp
  generation : Nat
  g : Int
  s : Int
  a : Int
  c : Int
  creditTotal : Int
  creditIds : List Nat
  balanceAfter : Option Int
  sequenceAfter : Option Seq
  reversed : Option Nat
  deriving DecidableEq, Repr

/-- A journal record (11 R177). -/
structure JournalRecord where
  number : Nat
  time : Time
  body : RecordBody
  deriving DecidableEq, Repr

/-- One station's set of counters (11 R183). -/
structure Counters where
  sales : Nat
  charged : Nat
  subsidy : Nat
  allowance : Nat
  credits : Nat
  reversals : Nat
  reversalSum : Nat
  cashCount : Nat
  cashSum : Nat
  deriving DecidableEq, Repr

/-! ### Stations -/

inductive StationState where
  | absent
  | pending
  | good
  | doubtful
  | dropped
  | held
  | leaving
  deriving DecidableEq, Repr

/-- The failure kinds (10 R163). -/
inductive FailureKind where
  | noAnswer
  | badCheck
  | badForm
  | wrongAddress
  | waitLimit
  deriving DecidableEq, Repr

/-- A set of failure kinds: a kind is in the set or not (10 R173). -/
structure FailureSet where
  noAnswer : Bool
  badCheck : Bool
  badForm : Bool
  wrongAddress : Bool
  waitLimit : Bool
  deriving DecidableEq, Repr

/-- The causes of a STATION_STATE report (10 R167). -/
inductive StationCause where
  | scoreUp
  | scoreDown
  | drop
  | holdAtDrop
  | recovered
  | holdAfter
  deriving DecidableEq, Repr

inductive GoneCause where
  | silence
  | leave
  deriving DecidableEq, Repr

/-- The state a loss event names (04 R83). -/
inductive LossCause where
  | dropped
  | held
  | off
  deriving DecidableEq, Repr

inductive PollKind where
  | poll
  | rollCall
  deriving DecidableEq, Repr

/-! ### Replies to stations -/

inductive DamageReason where
  | identity
  | noValidSlot
  | opposed
  | conflict
  deriving DecidableEq, Repr

inductive StaleReason where
  | conflict
  | older
  | opposed
  deriving DecidableEq, Repr

inductive Resolution where
  | happened
  | notHappened
  deriving DecidableEq, Repr

/-- The fields of a WRITE_ORDER reply (04 R69). -/
structure WriteOrder where
  sale : Nat
  card : Nat
  kind : SaleKind
  target : SlotIndex
  slot : PurseSlot
  figures : Figures
  riding : List Nat
  newBalance : Int
  timer : Nat
  deriving DecidableEq, Repr

/-- The replies the Sale Engine or a lane gives a station. -/
inductive StationReply where
  | writeOrder (order : WriteOrder)
  | balance (balance : Int) (allowance spend : Nat) (cap : Option Nat) (overdraft : Nat)
  | cashOnly (g s c : Int)
  | doneOk (sale journal : Nat) (balance : Int)
  | saleOk (sale : Nat)
  | late (resolution : Resolution) (journal : Nat)
  | badRequest (line : Nat)
  | notPermitted
  | notServing
  | stationBusy (sale : Nat)
  | cardDamaged (reason : DamageReason) (card : Option Nat)
  | cardStopped (card : Nat)
  | cardUnknown (card : Nat)
  | cardInUse (station : StationId) (sale : Nat)
  | staleMemory (reason : StaleReason) (card : Nat) (q l : Seq)
  | staleDoubt (card : Nat) (q e : Seq)
  | journalFull (free : Nat)
  | closedPeriod (period : Nat)
  | itemUnknown (line code : Nat)
  | itemNotNow (line code period : Nat)
  | basketTooLarge (g : Nat)
  | capReached (remaining : Nat)
  | insufficient (available : Int)
  | notReversible (precondition : Nat)
  | wrongState (sale : Nat)
  | alreadyClosed (how : SaleEnd)
  | noSuchSale
  deriving DecidableEq, Repr

/-- The outcome word a station reply carries. -/
def StationReply.word : StationReply → OutcomeWord
  | .writeOrder _ => .writeOrder
  | .balance _ _ _ _ _ => .balance
  | .cashOnly _ _ _ => .cashOnly
  | .doneOk _ _ _ => .ok
  | .saleOk _ => .ok
  | .late _ _ => .late
  | .badRequest _ => .badRequest
  | .notPermitted => .notPermitted
  | .notServing => .notServing
  | .stationBusy _ => .stationBusy
  | .cardDamaged _ _ => .cardDamaged
  | .cardStopped _ => .cardStopped
  | .cardUnknown _ => .cardUnknown
  | .cardInUse _ _ => .cardInUse
  | .staleMemory _ _ _ _ => .stalePurse
  | .staleDoubt _ _ _ => .stalePurse
  | .journalFull _ => .journalFull
  | .closedPeriod _ => .closedPeriod
  | .itemUnknown _ _ => .itemUnknown
  | .itemNotNow _ _ _ => .itemNotNow
  | .basketTooLarge _ => .basketTooLarge
  | .capReached _ => .capReached
  | .insufficient _ => .insufficient
  | .notReversible _ => .notReversible
  | .wrongState _ => .wrongState
  | .alreadyClosed _ => .alreadyClosed
  | .noSuchSale => .noSuchSale

/-- A reply in a station's reply slot, with its sent mark (09 R146). -/
structure SlotReply where
  request : Byte
  reply : StationReply
  sent : Bool
  deriving DecidableEq, Repr

/-- A station's outstanding request, with its orphaned mark (09 R146). -/
structure Outstanding where
  request : Byte
  orphaned : Bool
  deriving DecidableEq, Repr

/-- A station record (09 R146). -/
structure StationRecord where
  state : StationState
  role : Option Role
  score : Nat
  cleanCalls : Nat
  waits : Nat
  errors : FailureSet
  slot : Option SlotReply
  busy : Option Byte
  lastRequest : Option Byte
  outstanding : Option Outstanding
  contextFlag : Option Nat
  leaveRequested : Bool
  silent : Nat
  deriving DecidableEq, Repr

/-- The fields of a poll (09 R152). -/
structure Poll where
  addr : Fin 8
  kind : PollKind
  state : StationState
  reply : Option (Byte × StationReply)
  busy : Option Byte
  deriving DecidableEq, Repr

/-- An exchange in flight: the poll sent, and the answer bytes received so far (09 R152, 10 R163). -/
structure Exchange where
  poll : Poll
  received : List Byte
  deriving DecidableEq, Repr

/-- A lane's settings (09 R145, R148). -/
structure LaneSettings where
  recovery : RecoveryMode
  errors : ErrorMode
  timeout : Nat
  waitLimit : Nat
  deriving DecidableEq, Repr

/-- What LANE_READ gives of one station (09 R161). -/
structure StationReading where
  state : StationState
  role : Option Role
  score : Nat
  cleanCalls : Nat
  waits : Nat
  errors : FailureSet
  slot : Option (Byte × OutcomeWord × Bool)
  lastRequest : Option Byte
  outstanding : Option Outstanding
  contextFlag : Option Nat
  leaveRequested : Bool
  silent : Nat
  deriving DecidableEq, Repr

/-! ### Replies to the host -/

inductive HallMode where
  | setup
  | serving
  | suspended
  deriving DecidableEq, Repr

inductive PowerState where
  | run
  | retain
  deriving DecidableEq, Repr

/-- What an OPEN_HALL refused in SETUP names (12 R192). -/
structure OpenFailures where
  hallId : Bool
  clock : Bool
  tariff : Bool
  deriving DecidableEq, Repr

/-- A state name in SALE_LIST and QUERY_CARD replies: WRITE_ORDERED without its timer. -/
inductive ContextStateName where
  | pricedUnsent
  | writeOrdered
  deriving DecidableEq, Repr

/-- An order as replies give it, with its place counted from 1 (06 R106). -/
structure PlacedOrder where
  place : Nat
  order : CreditOrder
  deriving DecidableEq, Repr

/-- One open context as SALE_LIST gives it (04 R85). -/
structure ContextReading where
  sale : Nat
  station : StationId
  card : Nat
  kind : SaleKind
  state : ContextStateName
  stamp : Stamp
  generation : Nat
  figures : Figures
  riding : List Nat
  expected : Seq
  newBalance : Int
  secondsLeft : Option Nat
  deriving DecidableEq, Repr

/-- The open context of one card as QUERY_CARD gives it (07 R125). -/
structure OpenContext where
  station : StationId
  sale : Nat
  kind : SaleKind
  state : ContextStateName
  deriving DecidableEq, Repr

/-- One lane's part of STATUS (12 R193). -/
structure LaneStatus where
  mode : LaneMode
  lineStuck : Bool
  stations : Eight (StationState × Option Role)
  deriving DecidableEq, Repr

/-- The gathered STATUS reply (12 R193). -/
structure StatusData where
  mode : HallMode
  hallId : Option Nat
  power : PowerState
  clockSet : Bool
  day : Nat
  minute : Nat
  stamp : Stamp
  kind : PeriodKind
  generation : Nat
  staging : StagingName
  activeItems : Nat
  stagedItems : Nat
  queueHigh : Nat
  queueNormal : Nat
  openContexts : Nat
  doubts : Nat
  cardRecords : Nat
  orders : Nat
  ridingOrders : Nat
  stopCount : Nat
  rangeCount : Nat
  recordsHeld : Nat
  oldest : Option Nat
  newest : Option Nat
  free : Nat
  highFired : Bool
  laneA : LaneStatus
  laneB : LaneStatus
  outstandingTags : List Byte
  reports : Nat
  overflow : Bool
  deriving DecidableEq, Repr

/-- The replies to the host, each with the fields its rule names. -/
inductive HostReply where
  -- refusals shared by several requests
  | badRequest
  | noSuchSale
  | wrongHallMode (mode : HallMode)
  | wrongLaneMode (mode : LaneMode)
  | wrongStaging (state : StagingName)
  | wrongStationState (state : StationState)
  -- refusals whose rule names no field (08 R139, R140; 09 R147)
  | notFilling
  | cannotPause
  -- Sale Engine
  | orderPlaced (place count : Nat)
  | badAmount (amount : Nat)
  | duplicateOrder (card amount : Nat) (state : OrderState) (place : Nat)
  | creditsFull (count : Nat)
  | orderCancelled (card amount place count : Nat)
  | orderRiding (card amount sale : Nat)
  | noSuchOrder
  | creditsPage (count : Nat) (orders : List PlacedOrder)
  | card (record : Option CardRecord) (context : Option OpenContext) (doubt : Option DoubtEntry)
      (orderCount : Nat) (orders : List PlacedOrder) (result : ClassResult)
  | dismissed (journal : Nat) (orders : List (Nat × Nat))
  | doubtsPage (count : Nat) (entries : List DoubtEntry)
  | sales (high normal counter timer : Nat) (contexts : List ContextReading)
  | timerSet (taken former : Nat)
  -- Card Class Decoder
  | stopResults (results : List StopResult) (count : Nat)
  | stopCleared (removed : Nat)
  | stopPage (count : Nat) (cards : List Nat)
  | formerRange (former : Option CardRange)
  | formerDefault (former : Option Nat)
  | ranges (entries : Sixteen (Option CardRange)) (default : Option Nat)
  | classResult (result : ClassResult)
  -- Tariff Unit
  | stagingBegun (former : StagingName) (discarded : Nat)
  | itemsTaken (replaced count : Nat)
  | badItem (item : Option Nat)
  | stagedFull (count : Nat)
  | groupTaken (figures : GroupFigures)
  | stagingReady (count : Nat)
  | countMismatch (count : Nat)
  | swapped (generation : Nat)
  | notReady (state : StagingName)
  | tariffPage (state : StagingName) (generation count : Nat) (items : List PriceItem)
      (groups : Option (Eight GroupFigures))
  -- Hall Clock
  | badMinute (minute : Nat)
  | clockBackward (day minute : Nat)
  | clockSet (formerDay formerMinute day minute : Nat) (stamp : Stamp) (kind : PeriodKind)
      (raised : Bool)
  | badPeriods (entry : Option Nat)
  | periodsSet (former : List PeriodEntry) (stamp : Stamp) (kind : PeriodKind) (raised : Bool)
  | clock (isSet : Bool) (day minute second : Nat) (schedule : List PeriodEntry) (stamp : Stamp)
      (kind : PeriodKind)
  -- Lane Controllers
  | laneModes (former new : LaneMode)
  | laneOff (former : LaneMode) (stations holding : Nat)
  | settings (taken former : LaneSettings)
  | enrolled (station : StationId) (role : Role)
  | released (former : StationState)
  | stationHolds (sale : Nat)
  | restored (former : StationState) (cleanCalls : Nat)
  | formerErrors (errors : FailureSet)
  | formerStuck (stuck : Bool)
  | lane (mode : LaneMode) (settings : LaneSettings) (pointer : Fin 8) (stuck : Bool)
      (stations : Eight StationReading)
  -- Journal and Totals
  | journalPage (held : Nat) (oldest newest : Option Nat) (free : Nat)
      (records : List JournalRecord)
  | journalReleased (removed : Nat) (oldest : Option Nat) (free : Nat)
  | totals (period lastPeriod daily closedDay : Counters) (lastStamp : Option Stamp)
      (stamp : Stamp) (closedTime lastClose : Option Time)
  | dayClosed (daily : Sixteen Counters) (sums : Counters) (doubts : Nat) (former : Option Time)
      (now : Time)
  -- Hall Control
  | hallSet (former : Option Nat)
  | hallMoved
  | openRefused (mode : HallMode) (failed : OpenFailures)
  | status (data : StatusData)
  | softResetTaken
  | clearAllTaken (hall : Option Nat)
  | hallIdDiffers (hall : Option Nat)
  | othersOutstanding
  deriving DecidableEq, Repr

/-- The outcome word a host reply carries. -/
def HostReply.word : HostReply → OutcomeWord
  | .badRequest | .badAmount _ | .badItem _ | .badMinute _ | .badPeriods _ => .badRequest
  | .noSuchSale => .noSuchSale
  | .wrongHallMode _ | .wrongLaneMode _ | .cannotPause | .openRefused _ _ => .wrongMode
  | .wrongStaging _ | .notFilling | .wrongStationState _ | .othersOutstanding => .wrongState
  | .duplicateOrder _ _ _ _ => .duplicateOrder
  | .creditsFull _ | .stagedFull _ => .listFull
  | .orderRiding _ _ _ => .orderRiding
  | .noSuchOrder => .noSuchOrder
  | .countMismatch _ => .countMismatch
  | .notReady _ => .tariffNotReady
  | .clockBackward _ _ => .clockBackward
  | .stationHolds _ => .stationBusy
  | .hallIdDiffers _ => .notPermitted
  | .orderPlaced _ _ | .orderCancelled _ _ _ _ | .creditsPage _ _ | .card _ _ _ _ _ _
  | .dismissed _ _ | .doubtsPage _ _ | .sales _ _ _ _ _ | .timerSet _ _ | .stopResults _ _
  | .stopCleared _ | .stopPage _ _ | .formerRange _ | .formerDefault _ | .ranges _ _
  | .classResult _ | .stagingBegun _ _ | .itemsTaken _ _ | .groupTaken _ | .stagingReady _
  | .swapped _ | .tariffPage _ _ _ _ _ | .clockSet _ _ _ _ _ _ _ | .periodsSet _ _ _ _
  | .clock _ _ _ _ _ _ _ | .laneModes _ _ | .laneOff _ _ _ | .settings _ _ | .enrolled _ _
  | .released _ | .restored _ _ | .formerErrors _ | .formerStuck _ | .lane _ _ _ _ _
  | .journalPage _ _ _ _ _ | .journalReleased _ _ _ | .totals _ _ _ _ _ _ _ _
  | .dayClosed _ _ _ _ _ | .hallSet _ | .hallMoved | .status _ | .softResetTaken
  | .clearAllTaken _ => .ok

/-! ### Reports -/

/-- The cause a WARM_START report names (12 R196). -/
inductive WarmCause where
  | supply
  | resetLine
  | softReset
  deriving DecidableEq, Repr

/-- The report kinds of 12 R191, in that table's order, with their fields. -/
inductive Report where
  | stationJoined (station : StationId)
  | stationGone (station : StationId) (cause : GoneCause)
  | stationLeaving (station : StationId)
  | stationState (station : StationId) (former new : StationState) (cause : StationCause)
      (score cleanCalls : Nat) (errors : FailureSet) (time : Time)
  | lineStuck (lane : Lane) (time : Time)
  | doubtRaised (card sale : Nat) (station : StationId) (kind : SaleKind) (cause : DoubtCause)
      (expected : Seq) (riding : List Nat) (entries : Nat)
  | doubtClosed (card sale : Nat) (station : StationId) (how : SaleEnd) (way : DoubtWay)
      (journal entries : Nat)
  | staleMemory (card : Nat) (station : StationId) (reason : StaleReason) (q : Seq)
      (balance : Int) (l : Seq) (lastBalance : Int) (lastWriter : WriterMark)
  | staleDoubt (card : Nat) (q e : Seq) (sale : Nat)
  | creditDelivered (card sale : Nat) (station : StationId) (how : SaleEnd) (journal : Nat)
      (orders : List (Nat × Nat)) (total : Int)
  | journalHigh (held oldest newest free : Nat) (time : Time)
  | periodChanged (event : BoundaryEvent) (sums : Counters)
  | tariffSwapped (former new items : Nat) (cause : SwapCause) (time : Time)
  | warmStart (cause : WarmCause) (entry : Option Time) (start : Time) (mode : HallMode)
      (voided moved : Nat)
  deriving DecidableEq, Repr

/-! ### The office line -/

/-- The blocks that own requests (12 R189). -/
inductive Owner where
  | saleEngine
  | decoder
  | tariff
  | clock
  | lane (lane : Lane)
  | totals
  | hall
  deriving DecidableEq, Repr

/-- An entry of the outstanding-tag table: tag, request kind (13 R198) and owner (12 R188). -/
structure TagEntry where
  tag : Byte
  kind : Byte
  owner : Owner
  deriving DecidableEq, Repr

/-- A refusal given at once (12 R189); `kind` is the refused frame's kind, and `entry` the entry that the
reply to a SET_PERIODS names (08 R131). -/
structure OfficeRefusal where
  tag : Byte
  kind : Byte
  word : OutcomeWord
  entry : Option Nat
  deriving DecidableEq, Repr

/-- A reply handed back by a block, with its request's tag and kind (12 R189). -/
structure TaggedReply where
  tag : Byte
  kind : Byte
  reply : HostReply
  deriving DecidableEq, Repr

/-- A request handed to a block and not yet taken, with its tag (12 R189). -/
structure Handed where
  tag : Byte
  request : HostRequest
  deriving DecidableEq, Repr

/-- A frame on the outgoing office line (12 R190); a report carries the overflow indication as it
stood when the frame began (R191). -/
inductive OutFrame where
  | refusal (refusal : OfficeRefusal)
  | reply (reply : TaggedReply)
  | report (report : Report) (overflow : Bool)
  deriving DecidableEq, Repr

/-- The frame being sent, and whether a report has been dropped since it began (12 R191). -/
structure Sending where
  frame : OutFrame
  dropped : Bool
  deriving DecidableEq, Repr

/-- The office receiver: HUNTING, or INSIDE a frame with the bytes after its start marker so far
(12 R188). -/
inductive Receiver where
  | hunting
  | inside (got : List Byte)
  deriving DecidableEq, Repr

/-- The start a closing mark awaits (12 R194). -/
inductive ClosingStart where
  | softReset
  | clearAll
  deriving DecidableEq, Repr

/-- A start that is to be performed next: warm with its cause, or cold, by a set backup-failure
latch or by CLEAR_ALL (12 R194, R195). -/
inductive DueStart where
  | warm (cause : WarmCause)
  | cold (byLatch : Bool)
  deriving DecidableEq, Repr

/-! ### The work queue and the Sale Engine's events -/

/-- Where a queued request came from (04 R58). -/
inductive Work where
  | station (station : StationId) (number : Byte) (request : StationRequest)
  | host (handed : Handed)
  deriving DecidableEq, Repr

/-- A delivery event (04 R73). -/
structure Delivery where
  station : StationId
  sale : Nat
  deriving DecidableEq, Repr

/-- A loss event (04 R83). -/
structure Loss where
  station : StationId
  cause : LossCause
  deriving DecidableEq, Repr

/-! ### Fields whose encoding the spec does not give (13 R198) -/

/-- Which frame a field stands in: a reply to the host by its kind and outcome word, a report by its kind,
or a reply to a station by its outcome word. -/
inductive FrameName where
  | reply (kind word : Byte)
  | report (kind : Byte)
  | station (word : Byte)
  deriving DecidableEq, Repr

/-- The value of a field whose encoding R198 does not give: a number (a count, a place, a code), a flag, a
name by its position among the names its rule lists, or what may stand before a list of so many entries. -/
inductive OpenValue where
  | number (n : Nat)
  | amount (cents : Int)
  | flag (b : Bool)
  | name (position : Nat)
  | entries (n : Nat)
  deriving DecidableEq, Repr

end Sys2Proof.Machine
end

