-- ==== Sys2Proof/Config.lean ====
section
/-! DEFINITION. The part's capacities and limits, each with its rule, and the encoding of the
fields that R198 does not give, as a function with no body. -/

namespace Sys2Proof.Config

open Sys2Proof Sys2Proof.Machine

/-- Work queue places (04 R60). -/
abbrev workQueueSize : Nat := 24
/-- Outstanding tags (12 R188, R189). -/
abbrev tagTableSize : Nat := 8
/-- Immediate refusals awaiting the line (12 R188). -/
abbrev refusalQueueSize : Nat := 8
/-- Reports (12 R191). -/
abbrev reportQueueSize : Nat := 32
/-- Doubt List entries (05 R87). -/
abbrev doubtListSize : Nat := 64
/-- Credit orders (06 R103). -/
abbrev creditListSize : Nat := 1024
/-- Card Memory records (07 R116). -/
abbrev cardMemorySize : Nat := 4096
/-- Stop List numbers (03 R43). -/
abbrev stopListSize : Nat := 512
/-- Price list items (02 R18). -/
abbrev priceListSize : Nat := 1024
/-- Journal records (11 R176). -/
abbrev journalSize : Nat := 2048
/-- The last journal number (11 R176). -/
abbrev lastJournalNumber : Nat := 4294967295
/-- The count at which JOURNAL_HIGH fires (11 R182). -/
abbrev journalHighMark : Nat := 1792
/-- The count below which JOURNAL_HIGH is armed again (11 R182). -/
abbrev journalLowMark : Nat := 1536
/-- Where every counter of the totals saturates (11 R183). -/
abbrev counterLimit : Nat := 4294967295
/-- The highest purse balance (01 R5, 02 R28). -/
abbrev purseLimit : Int := 999999
/-- The lowest purse balance a valid slot holds (01 R6). -/
abbrev purseFloor : Int := -5000
/-- Where spend today is clamped (01 R12, R13). -/
abbrev spendLimit : Nat := 999999
/-- Where allowance used is clamped (01 R13). -/
abbrev allowanceLimit : Nat := 65535
/-- Riding orders of one sale (02 R28). -/
abbrev ridingLimit : Nat := 4
/-- Lines of a basket (02 R21). -/
abbrev basketLimit : Nat := 12
/-- The longest body of an office frame (12 R188). -/
abbrev bodyLimit : Nat := 1024

/-- The bytes of a field whose encoding R198 does not give, by the frame it stands in and its place there
(log entry 9). -/
opaque openField : FrameName → Nat → OpenValue → List Byte

end Sys2Proof.Config
end

