-- ==== Sys2Proof/Machine/State.lean ====
section
/-! DEFINITION. The state of the JP-416, block by block, and its value after a cold start. -/

namespace Sys2Proof.Machine

open Sys2Proof

/-- No step of the part stops it with a fault: chapter 10's station faults are state, and every
answer the spec calls a refusal is a reply. No constructor: nothing raises it (safe). -/
inductive Fault where
  deriving DecidableEq, Repr

/-- Why a command is refused by the model. -/
inductive Refusal where
  /-- Raised by an arm of `exec` whose command has no meaning yet, by its mnemonic (safe: the model
  stops where the part goes on). No arm raises it now. -/
  | notModelled (mnemonic : String)
  deriving DecidableEq, Repr

/-- The Office Link Interface (12 R188), with its transmitter (R190). -/
structure OfficeLink where
  receiver : Receiver
  tags : List TagEntry
  refusals : List OfficeRefusal
  replies : List TaggedReply
  reports : List Report
  overflow : Bool
  closing : Option ClosingStart
  sending : Option Sending
  lastWasRefusal : Bool
  deriving DecidableEq, Repr

/-- Hall Control (12 R192, R194, R195). -/
structure HallControl where
  mode : HallMode
  hallId : Option Nat
  power : PowerState
  backupLatch : Bool
  resetHeld : Bool
  entryTime : Option Time
  startDue : Option DueStart
  inbox : List Handed
  deriving DecidableEq, Repr

/-- One Lane Controller (09 R145). `position` none is END; `waiting` is the poll the
lane was ready to send when it began to wait for a held line (10 R174). -/
structure LaneControl where
  mode : LaneMode
  settings : LaneSettings
  position : Option (Fin 8)
  rollPointer : Fin 8
  exchange : Option Exchange
  lineStuck : Bool
  waiting : Option (Fin 8 × PollKind)
  stations : Eight StationRecord
  inbox : List Handed
  deriving DecidableEq, Repr

/-- The Sale Engine (04 R56) with Card Memory (07), the Doubt List (05) and the Credit List (06).
`contexts` stands in ascending sale number and `memory` in ascending card number. -/
structure SaleEngine where
  queue : List Work
  contexts : List Context
  counter : Nat
  timerSetting : Nat
  lastClosed : Sixteen (Option ClosedNote)
  memory : List CardRecord
  doubts : List DoubtEntry
  credits : List CreditOrder
  deliveries : List Delivery
  losses : List Loss
  deriving DecidableEq, Repr

/-- The Card Class Decoder (03 R40). -/
structure Decoder where
  stop : List Nat
  ranges : Sixteen (Option CardRange)
  defaultClass : Option Nat
  inbox : List Handed
  deriving DecidableEq, Repr

/-- The staging state with the staged set it holds: none in EMPTY (08 R136). -/
inductive Staging where
  | empty
  | filling (staged : TariffSet)
  | ready (staged : TariffSet)
  deriving DecidableEq, Repr

/-- The Tariff Unit (08 R136). -/
structure TariffUnit where
  active : TariffSet
  staging : Staging
  generation : Nat
  boundary : List BoundaryEvent
  inbox : List Handed
  deriving DecidableEq, Repr

/-- The Hall Clock (08 R127). -/
structure HallClock where
  isSet : Bool
  day : Nat
  minute : Nat
  second : Nat
  schedule : List PeriodEntry
  stamp : Stamp
  kind : PeriodKind
  inbox : List Handed
  deriving DecidableEq, Repr

/-- The Journal and Totals unit (11 R176). `high` set is FIRED. -/
structure JournalTotals where
  journal : List JournalRecord
  next : Nat
  exhausted : Bool
  high : Bool
  period : Sixteen Counters
  lastPeriod : Sixteen Counters
  lastStamp : Option Stamp
  daily : Sixteen Counters
  closedDay : Sixteen Counters
  closedTime : Option Time
  lastClose : Option Time
  boundary : List BoundaryEvent
  inbox : List Handed
  deriving DecidableEq, Repr

/-- The whole part, and the queue of the commands that wait, first in first out. -/
structure State where
  office : OfficeLink
  hall : HallControl
  laneA : LaneControl
  laneB : LaneControl
  sale : SaleEngine
  decoder : Decoder
  tariff : TariffUnit
  clock : HallClock
  totals : JournalTotals
  pending : List Instr
  deriving DecidableEq, Repr

/-- What a command's meaning answers. -/
abbrev Result := Host.Outcome State Fault Refusal

/-! ### The values after a cold start (12 R197) -/

def FailureSet.empty : FailureSet := ⟨false, false, false, false, false⟩

/-- 09 R146, column "After a cold start". -/
def StationRecord.initial : StationRecord where
  state := .absent
  role := none
  score := 0
  cleanCalls := 0
  waits := 0
  errors := .empty
  slot := none
  busy := none
  lastRequest := none
  outstanding := none
  contextFlag := none
  leaveRequested := false
  silent := 0

/-- 12 R188, column "After a cold start". -/
def OfficeLink.initial : OfficeLink where
  receiver := .hunting
  tags := []
  refusals := []
  replies := []
  reports := []
  overflow := false
  closing := none
  sending := none
  lastWasRefusal := false

/-- 12 R192, R197. -/
def HallControl.initial : HallControl where
  mode := .setup
  hallId := none
  power := .run
  backupLatch := false
  resetHeld := false
  entryTime := none
  startDue := none
  inbox := []

/-- 09 R145, column "After a cold start". -/
def LaneControl.initial : LaneControl where
  mode := .off
  settings := ⟨.auto, .first, 3, 200⟩
  position := some 0
  rollPointer := 7
  exchange := none
  lineStuck := false
  waiting := none
  stations := Eight.fill .initial
  inbox := []

/-- 04 R56, 05 R87, 06 R103, 07 R116. -/
def SaleEngine.initial : SaleEngine where
  queue := []
  contexts := []
  counter := 1
  timerSetting := 20
  lastClosed := Sixteen.fill none
  memory := []
  doubts := []
  credits := []
  deliveries := []
  losses := []

/-- 03 R40. -/
def Decoder.initial : Decoder where
  stop := []
  ranges := Sixteen.fill none
  defaultClass := none
  inbox := []

/-- 02 R19: a group of zero figures. -/
def GroupFigures.zero : GroupFigures := ⟨Eight.fill 0, Eight.fill 0, 0, 0⟩

/-- 08 R136. -/
def TariffUnit.initial : TariffUnit where
  active := ⟨[], Eight.fill GroupFigures.zero⟩
  staging := .empty
  generation := 0
  boundary := []
  inbox := []

/-- 08 R127. -/
def HallClock.initial : HallClock where
  isSet := false
  day := 0
  minute := 0
  second := 0
  schedule := [⟨0, .meal⟩]
  stamp := ⟨0, 0⟩
  kind := .meal
  inbox := []

def Counters.zero : Counters := ⟨0, 0, 0, 0, 0, 0, 0, 0, 0⟩

/-- 11 R176. -/
def JournalTotals.initial : JournalTotals where
  journal := []
  next := 1
  exhausted := false
  high := false
  period := Sixteen.fill .zero
  lastPeriod := Sixteen.fill .zero
  lastStamp := none
  daily := Sixteen.fill .zero
  closedDay := Sixteen.fill .zero
  closedTime := none
  lastClose := none
  boundary := []
  inbox := []

/-- The part right after a cold start (12 R197), with no command waiting. -/
def State.reset : State where
  office := .initial
  hall := .initial
  laneA := .initial
  laneB := .initial
  sale := .initial
  decoder := .initial
  tariff := .initial
  clock := .initial
  totals := .initial
  pending := []

end Sys2Proof.Machine
end

