-- ==== Sys2Proof/Machine/Layouts.lean ====
section
/-! DEFINITION. Chapter 13, the bytes the part writes: the figures of R198, the card blocks, the journal
record, and the fields of replies and reports in the order their rules give them. -/

namespace Sys2Proof.Machine

open Sys2Proof

/-! ### Multi-byte fields, most significant byte first (13 R198) -/

def be16 (v : BitVec 16) : List Byte := [v.extractLsb' 8 8, v.extractLsb' 0 8]

def be24 (v : BitVec 24) : List Byte :=
  [v.extractLsb' 16 8, v.extractLsb' 8 8, v.extractLsb' 0 8]

def be32 (v : BitVec 32) : List Byte :=
  [v.extractLsb' 24 8, v.extractLsb' 16 8, v.extractLsb' 8 8, v.extractLsb' 0 8]

/-- Money in replies, reports and journal records: 4 bytes, signed (13 R198). An amount that they cannot hold
has no such bytes, and stands in `moneyField` alone. -/
def moneyBytes (m : Int) : List Byte := be32 (BitVec.ofInt 32 m)

def nat16 (n : Nat) : List Byte := be16 (BitVec.ofNat 16 n)

def nat32 (n : Nat) : List Byte := be32 (BitVec.ofNat 32 n)

/-- Station id: 1 to 8 for A1 to A8, 9 to 16 for B1 to B8 (13 R198). -/
def stationCode (st : StationId) : Byte :=
  match st.lane with
  | .a => BitVec.ofNat 8 (st.addr.val + 1)
  | .b => BitVec.ofNat 8 (st.addr.val + 9)

/-- Outcome word: its position in the list, counting OK as 0 (13 R198). -/
def OutcomeWord.code (w : OutcomeWord) : Byte := BitVec.ofNat 8 w.ctorIdx

/-- Request kind on the office line: the request's position in R189's table, from 1 (13 R198). -/
def HostRequest.kind (r : HostRequest) : Byte := BitVec.ofNat 8 (r.ctorIdx + 1)

/-- Report kind: 64 plus the report's position in R191's table, from 1 (13 R198). -/
def Report.kind : Report → Byte
  | .stationJoined _ => 65
  | .stationGone _ _ => 66
  | .stationLeaving _ => 67
  | .stationState _ _ _ _ _ _ _ _ => 68
  | .lineStuck _ _ => 69
  | .doubtRaised _ _ _ _ _ _ _ _ => 70
  | .doubtClosed _ _ _ _ _ _ _ => 71
  | .staleMemory _ _ _ _ _ _ _ _ => 72
  | .staleDoubt _ _ _ _ => 72
  | .creditDelivered _ _ _ _ _ _ _ => 73
  | .journalHigh _ _ _ _ _ => 74
  | .periodChanged _ _ => 75
  | .tariffSwapped _ _ _ _ _ => 76
  | .warmStart _ _ _ _ _ _ => 77

/-! ### The card blocks (13.4) -/

/-- Identity offsets 0 to 6, over which the check is computed. -/
def IdentityBlock.body (i : IdentityBlock) : List Byte :=
  be32 i.card ++ be16 i.issueDay ++ [i.kind]

def IdentityBlock.bytes (i : IdentityBlock) : List Byte := i.body ++ [i.check]

/-- Slot offsets 0 to 14, over which the check is computed: the top 3 bits of the field at offset 12
hold the stamp period and its low 21 bits spend today. -/
def PurseSlot.body (p : PurseSlot) : List Byte :=
  be16 p.sequence ++ be24 p.balance ++ [p.writerHall] ++ be16 p.writerSale ++ be16 p.stampDay
    ++ be16 p.allowanceUsed ++ be24 (p.stampPeriod ++ p.spendToday)

def PurseSlot.bytes (p : PurseSlot) : List Byte := p.body ++ [p.check]

/-! ### The journal record (13.5) -/

def RecordKind.code : RecordKind → Byte
  | .sale => 0
  | .credit => 1
  | .reversal => 2
  | .cash => 3

def RecordOutcome.code : RecordOutcome → Byte
  | .committed => 0
  | .committedLate => 1
  | .voidedAfterDoubt => 2
  | .unresolved => 3

def CardKind.code : CardKind → Byte
  | .staff => 0
  | .contractor => 1
  | .visitor => 2

def JournalRecord.bytes (r : JournalRecord) : List Byte :=
  nat32 r.number ++ [r.body.kind.code, r.body.outcome.code, stationCode r.body.station]
    ++ nat32 r.body.card ++ [r.body.cardKind.code] ++ nat16 r.body.sale
    ++ nat16 r.body.stamp.day ++ [BitVec.ofNat 8 r.body.stamp.period] ++ nat16 r.body.generation
    ++ moneyBytes r.body.g ++ moneyBytes r.body.s ++ moneyBytes r.body.a ++ moneyBytes r.body.c
    ++ moneyBytes r.body.creditTotal
    ++ [(if r.body.balanceAfter.isSome then 1 else 0) ||| (if r.body.sequenceAfter.isSome then 2 else 0)
          ||| (if r.body.reversed.isSome then 4 else 0)]
    ++ moneyBytes (r.body.balanceAfter.getD 0) ++ be16 (r.body.sequenceAfter.getD 0)
    ++ nat32 (r.body.reversed.getD 0)
    ++ nat16 r.time.day ++ nat16 r.time.minute
    ++ BitVec.ofNat 8 r.body.creditIds.length :: r.body.creditIds.flatMap nat32

/-! ### Fields (13 R198, 13.2) -/

/-- A field as it is written: bytes that R198 or a layout of chapter 13 fixes, or a value whose encoding is
left open. -/
inductive Field where
  | fixed (bytes : List Byte)
  | free (value : OpenValue)
  deriving DecidableEq, Repr

/-- The bytes of a field at its place in its frame. -/
def Field.bytes (f : FrameName) (place : Nat) : Field → List Byte
  | .fixed bs => bs
  | .free v => Config.openField f place v

/-- The fields one after another, in the order given. -/
def fieldBytes (f : FrameName) : Nat → List Field → List Byte
  | _, [] => []
  | n, x :: xs => x.bytes f n ++ fieldBytes f (n + 1) xs

def byteField (b : Byte) : Field := .fixed [b]

/-- A day number, hall minute, sale number or tariff generation. -/
def field16 (n : Nat) : Field := .fixed (nat16 n)

/-- A card number, order id or journal number. -/
def field32 (n : Nat) : Field := .fixed (nat32 n)

def seqField (q : Seq) : Field := .fixed (be16 q)

/-- Money, left open where 4 signed bytes cannot hold it: the amount of a refused CREDIT_ORDER, whose width in
the request no rule gives (06 R107), and a sum of 11 R183 (log entry 9). -/
def moneyField (m : Int) : Field :=
  if -2147483648 ≤ m ∧ m < 2147483648 then .fixed (moneyBytes m) else .free (.amount m)

def stampField (s : Stamp) : Field := .fixed (nat16 s.day ++ [BitVec.ofNat 8 s.period])

def timeField (t : Time) : Field := .fixed (nat16 t.day ++ nat16 t.minute)

def stationField (st : StationId) : Field := byteField (stationCode st)

def numberField (n : Nat) : Field := .free (.number n)

def flagField (b : Bool) : Field := .free (.flag b)

def nameField (i : Nat) : Field := .free (.name i)

/-- A field that may be NONE or absent and, by the model's inference (log entry 9), one that may be EMPTY, UNSET
or clear: a presence byte, then the field when present. -/
def maybeFields {α : Type} (f : α → List Field) : Option α → List Field
  | none => [byteField 0]
  | some x => byteField 1 :: f x

/-- The entries of a list in their order, after whatever stands before a list of that length. -/
def listFields {α : Type} (f : α → List Field) (xs : List α) : List Field :=
  .free (.entries xs.length) :: xs.flatMap f

/-! ### Fields of the records that replies and reports give -/

def Figures.fields (f : Figures) : List Field := [f.g, f.s, f.a, f.c, f.k].map moneyField

def FailureSet.fields (f : FailureSet) : List Field :=
  [f.noAnswer, f.badCheck, f.badForm, f.wrongAddress, f.waitLimit].map flagField

/-- The counters of 11 R183: counts and sums in its table's order. -/
def Counters.fields (k : Counters) : List Field :=
  [numberField k.sales, moneyField k.charged, moneyField k.subsidy, moneyField k.allowance,
    moneyField k.credits, numberField k.reversals, moneyField k.reversalSum, numberField k.cashCount,
    moneyField k.cashSum]

/-- State and riding sale number (06 R104). -/
def OrderState.fields (x : OrderState) : List Field :=
  nameField x.ctorIdx :: maybeFields (fun n => [field16 n])
    (match x with | .pending => none | .riding n => some n)

/-- Place, then the fields of 06 R104. -/
def PlacedOrder.fields (p : PlacedOrder) : List Field :=
  [numberField p.place, field32 p.order.id, field32 p.order.card, moneyField p.order.amount]
    ++ p.order.state.fields

/-- 07 R125: place, state, amount, and the riding sale number of a RIDING order. -/
def PlacedOrder.cardFields (p : PlacedOrder) : List Field :=
  [numberField p.place, nameField p.order.state.ctorIdx, moneyField p.order.amount]
    ++ maybeFields (fun n => [field16 n])
      (match p.order.state with | .pending => none | .riding n => some n)

def amountFields (o : Nat × Nat) : List Field := [field32 o.1, moneyField o.2]

def ridingFields (ids : List Nat) : List Field := listFields (fun id => [field32 id]) ids

/-- The last-sale part (07 R122). -/
def LastSale.fields (l : LastSale) : List Field :=
  [field16 l.sale, field32 l.journal, nameField l.kind.ctorIdx, moneyField l.c, moneyField l.a,
    stampField l.stamp, seqField l.seqAfter, flagField l.reversed]

def WriterMark.fields (w : WriterMark) : List Field := [numberField w.hall, field16 w.sale]

/-- A Card Memory record (07 R117). -/
def CardRecord.fields (r : CardRecord) : List Field :=
  [field32 r.card, seqField r.seq, moneyField r.balance] ++ r.writer.fields ++ [timeField r.lastSeen]
    ++ maybeFields (fun st => [stationField st]) r.inUse ++ [flagField r.doubt]
    ++ maybeFields LastSale.fields r.lastSale

def OpenContext.fields (c : OpenContext) : List Field :=
  [stationField c.station, field16 c.sale, nameField c.kind.ctorIdx, nameField c.state.ctorIdx]

/-- A Doubt List entry (05 R88). -/
def DoubtEntry.fields (e : DoubtEntry) : List Field :=
  [field16 e.data.sale, stationField e.data.station, field32 e.data.card,
    nameField e.data.cardKind.ctorIdx, nameField e.data.kind.ctorIdx, stampField e.data.stamp,
    field16 e.data.generation] ++ e.data.figures.fields ++ ridingFields e.data.riding
    ++ [seqField e.data.expected, moneyField e.data.newBalance]
    ++ maybeFields (fun n => [field32 n]) e.data.reversed
    ++ [timeField e.created, nameField e.cause.ctorIdx]

/-- An open context as SALE_LIST gives it (04 R85). -/
def ContextReading.fields (c : ContextReading) : List Field :=
  [field16 c.sale, stationField c.station, field32 c.card, nameField c.kind.ctorIdx,
    nameField c.state.ctorIdx, stampField c.stamp, field16 c.generation] ++ c.figures.fields
    ++ ridingFields c.riding ++ [seqField c.expected, moneyField c.newBalance]
    ++ maybeFields (fun n => [numberField n]) c.secondsLeft

/-- The five fields of a range (03 R44). -/
def CardRange.fields (r : CardRange) : List Field :=
  [field32 r.first, field32 r.last, numberField r.group, flagField r.purse, flagField r.allowance]

/-- A decode result (03 R52): its name, then group, allowance flag, entry number and the word DEFAULT, each
absent from the results that do not carry it (log entry 9). -/
def ClassResult.fields (r : ClassResult) : List Field :=
  let carried (group : Option Nat) (allowance : Option Bool) (entry : Option Nat) (default : Option Unit) :
      List Field :=
    maybeFields (fun n => [numberField n]) group ++ maybeFields (fun b => [flagField b]) allowance
      ++ maybeFields (fun n => [numberField n]) entry ++ maybeFields (fun _ => [nameField 0]) default
  nameField r.ctorIdx ::
    match r with
    | .stopped | .unknown => carried none none none none
    | .purse group allowance entry => carried (some group) (some allowance) (some entry) none
    | .cashOnly group (some entry) => carried (some group) none (some entry) none
    | .cashOnly group none => carried (some group) none none (some ())

/-- A group's figures as 08 R139's table lists them. -/
def GroupFigures.fields (g : GroupFigures) : List Field :=
  g.subsidy.toList.map numberField ++ g.allowance.toList.map (fun a => moneyField a)
    ++ [moneyField g.dailyCap, moneyField g.overdraft]

def PriceItem.fields (i : PriceItem) : List Field :=
  [numberField i.code, moneyField i.price] ++ i.mask.toList.map flagField

def PeriodEntry.fields (e : PeriodEntry) : List Field := [field16 e.start, nameField e.kind.ctorIdx]

def LaneSettings.fields (s : LaneSettings) : List Field :=
  [nameField s.recovery.ctorIdx, nameField s.errors.ctorIdx, numberField s.timeout,
    numberField s.waitLimit]

/-- A role, which may be NONE (09 R146). -/
def roleFields (r : Option Role) : List Field := maybeFields (fun x : Role => [nameField x.ctorIdx]) r

/-- One station of LANE_READ (09 R161). -/
def StationReading.fields (r : StationReading) : List Field :=
  nameField r.state.ctorIdx :: roleFields r.role
    ++ [numberField r.score, numberField r.cleanCalls, numberField r.waits] ++ r.errors.fields
    ++ maybeFields (fun x => [byteField x.1, byteField x.2.1.code, flagField x.2.2]) r.slot
    ++ maybeFields (fun n => [byteField n]) r.lastRequest
    ++ maybeFields (fun o => [byteField o.request, flagField o.orphaned]) r.outstanding
    ++ maybeFields (fun n => [field16 n]) r.contextFlag
    ++ [flagField r.leaveRequested, numberField r.silent]

/-- The sixteen stations with their lane and address. -/
def laneStations (l : Lane) (x : LaneStatus) : List Field :=
  ([0, 1, 2, 3, 4, 5, 6, 7] : List (Fin 8)).flatMap fun a =>
    stationField ⟨l, a⟩ :: nameField (x.stations.get a).1.ctorIdx :: roleFields (x.stations.get a).2

/-- STATUS, part by part (12 R193). -/
def StatusData.fields (d : StatusData) : List Field :=
  nameField d.mode.ctorIdx :: maybeFields (fun n => [numberField n]) d.hallId
    ++ [nameField d.power.ctorIdx, flagField d.clockSet, field16 d.day, field16 d.minute,
      stampField d.stamp, nameField d.kind.ctorIdx, field16 d.generation, nameField d.staging.ctorIdx]
    ++ [d.activeItems, d.stagedItems, d.queueHigh, d.queueNormal, d.openContexts, d.doubts,
      d.cardRecords, d.orders, d.ridingOrders, d.stopCount, d.rangeCount, d.recordsHeld].map numberField
    ++ maybeFields (fun n => [field32 n]) d.oldest ++ maybeFields (fun n => [field32 n]) d.newest
    ++ [numberField d.free, flagField d.highFired, nameField d.laneA.mode.ctorIdx,
      flagField d.laneA.lineStuck, nameField d.laneB.mode.ctorIdx, flagField d.laneB.lineStuck]
    ++ laneStations .a d.laneA ++ laneStations .b d.laneB
    ++ listFields (fun t => [byteField t]) d.outstandingTags
    ++ [numberField d.reports, flagField d.overflow]

/-! ### Replies to a station (13.3 "fields (n)") -/

/-- The fields after the outcome word, in the order of the reply's rule. -/
def StationReply.fields : StationReply → List Field
  | .writeOrder o =>
    [field16 o.sale, field32 o.card, nameField o.kind.ctorIdx, nameField o.target.ctorIdx,
      .fixed o.slot.bytes] ++ o.figures.fields ++ numberField o.riding.length :: o.riding.map field32
      ++ [moneyField o.newBalance, numberField o.timer]
  | .balance b allowance spend cap overdraft =>
    [moneyField b, moneyField allowance, moneyField spend]
      ++ maybeFields (fun n : Nat => [moneyField n]) cap ++ [moneyField overdraft]
  | .cashOnly g s c => [moneyField g, moneyField s, moneyField c]
  | .doneOk sale journal b => [field16 sale, field32 journal, moneyField b]
  | .saleOk sale => [field16 sale]
  | .late resolution journal => [nameField resolution.ctorIdx, field32 journal]
  | .badRequest line => [numberField line]
  | .notPermitted | .notServing | .noSuchSale => []
  | .stationBusy sale => [field16 sale]
  | .cardDamaged reason card => nameField reason.ctorIdx :: maybeFields (fun n => [field32 n]) card
  | .cardStopped card => [field32 card]
  | .cardUnknown card => [field32 card]
  | .cardInUse st sale => [stationField st, field16 sale]
  | .staleMemory reason card q l => [nameField reason.ctorIdx, field32 card, seqField q, seqField l]
  | .staleDoubt card q e => [field32 card, seqField q, seqField e]
  | .journalFull free => [numberField free]
  | .closedPeriod p => [numberField p]
  | .itemUnknown line code => [numberField line, numberField code]
  | .itemNotNow line code p => [numberField line, numberField code, numberField p]
  | .basketTooLarge g => [moneyField g]
  | .capReached remaining => [moneyField remaining]
  | .insufficient available => [moneyField available]
  | .notReversible n => [numberField n]
  | .wrongState sale => [field16 sale]
  | .alreadyClosed how => [nameField how.ctorIdx]

def StationReply.fieldBytes (r : StationReply) : List Byte :=
  Machine.fieldBytes (.station r.word.code) 0 r.fields

/-! ### Replies to the host (13.2) -/

/-- The fields after the outcome word, in the order of the reply's rule. -/
def HostReply.fields : HostReply → List Field
  | .badRequest | .noSuchSale | .noSuchOrder | .hallMoved | .softResetTaken | .othersOutstanding
  | .notFilling | .cannotPause => []
  | .wrongHallMode m => [nameField m.ctorIdx]
  | .wrongLaneMode m => [nameField m.ctorIdx]
  | .wrongStaging x => [nameField x.ctorIdx]
  | .wrongStationState x => [nameField x.ctorIdx]
  | .orderPlaced place count => [numberField place, numberField count]
  | .badAmount amount => [moneyField amount]
  | .duplicateOrder n amount x place =>
    [field32 n, moneyField amount] ++ x.fields ++ [numberField place]
  | .creditsFull count => [numberField count]
  | .orderCancelled n amount place count =>
    [field32 n, moneyField amount, numberField place, numberField count]
  | .orderRiding n amount sale => [field32 n, moneyField amount, field16 sale]
  | .creditsPage count orders => numberField count :: listFields PlacedOrder.fields orders
  | .card record context doubt count orders result =>
    maybeFields CardRecord.fields record ++ maybeFields OpenContext.fields context
      ++ maybeFields DoubtEntry.fields doubt ++ numberField count
      :: listFields PlacedOrder.cardFields orders ++ result.fields
  | .dismissed journal orders => field32 journal :: listFields amountFields orders
  | .doubtsPage count entries => numberField count :: listFields DoubtEntry.fields entries
  | .sales high normal counter timer contexts =>
    [numberField high, numberField normal, field16 counter, numberField timer]
      ++ listFields ContextReading.fields contexts
  | .timerSet taken former => [numberField taken, numberField former]
  | .stopResults results count =>
    listFields (fun r : StopResult => [nameField r.ctorIdx]) results ++ [numberField count]
  | .stopCleared removed => [numberField removed]
  | .stopPage count cards => numberField count :: listFields (fun n => [field32 n]) cards
  | .formerRange former => maybeFields CardRange.fields former
  | .formerDefault former => maybeFields (fun g => [numberField g]) former
  | .ranges entries default =>
    entries.toList.flatMap (maybeFields CardRange.fields) ++ maybeFields (fun g => [numberField g]) default
  | .classResult result => result.fields
  | .stagingBegun former discarded => [nameField former.ctorIdx, numberField discarded]
  | .itemsTaken replaced count => [numberField replaced, numberField count]
  | .badItem item => maybeFields (fun n => [numberField n]) item
  | .stagedFull count => [numberField count]
  | .groupTaken figures => figures.fields
  | .stagingReady count => [numberField count]
  | .countMismatch count => [numberField count]
  | .swapped generation => [field16 generation]
  | .notReady x => [nameField x.ctorIdx]
  | .tariffPage x generation count items groups =>
    [nameField x.ctorIdx, field16 generation, numberField count] ++ listFields PriceItem.fields items
      ++ maybeFields (fun g : Eight GroupFigures => g.toList.flatMap GroupFigures.fields) groups
  | .badMinute minute => [field16 minute]
  | .clockBackward day minute => [field16 day, field16 minute]
  | .clockSet formerDay formerMinute day minute stamp kind raised =>
    [field16 formerDay, field16 formerMinute, field16 day, field16 minute, stampField stamp,
      nameField kind.ctorIdx, flagField raised]
  | .badPeriods entry => maybeFields (fun n => [numberField n]) entry
  | .periodsSet former stamp kind raised =>
    listFields PeriodEntry.fields former ++ [stampField stamp, nameField kind.ctorIdx, flagField raised]
  | .clock isSet day minute second schedule stamp kind =>
    [flagField isSet, field16 day, field16 minute, numberField second]
      ++ listFields PeriodEntry.fields schedule ++ [stampField stamp, nameField kind.ctorIdx]
  -- the two counts are absent but for an entry into OFF (09 R147)
  | .laneModes former new =>
    [nameField former.ctorIdx, nameField new.ctorIdx, byteField 0, byteField 0]
  | .laneOff former stations holding =>
    [nameField former.ctorIdx, nameField LaneMode.off.ctorIdx, byteField 1, numberField stations, byteField 1,
      numberField holding]
  | .settings taken former => taken.fields ++ former.fields
  | .enrolled st role => [stationField st, nameField role.ctorIdx]
  | .released former => [nameField former.ctorIdx]
  | .stationHolds sale => [field16 sale]
  | .restored former calls => [nameField former.ctorIdx, numberField calls]
  | .formerErrors errors => errors.fields
  | .formerStuck stuck => [flagField stuck]
  | .lane mode set pointer stuck stations =>
    nameField mode.ctorIdx :: set.fields ++ [numberField (pointer.val + 1), flagField stuck]
      ++ stations.toList.flatMap StationReading.fields
  | .journalPage held oldest newest free records =>
    numberField held :: maybeFields (fun n => [field32 n]) oldest
      ++ maybeFields (fun n => [field32 n]) newest ++ numberField free
      :: listFields (fun r : JournalRecord => [.fixed r.bytes]) records
  | .journalReleased removed oldest free =>
    numberField removed :: maybeFields (fun n => [field32 n]) oldest ++ [numberField free]
  | .totals period lastPeriod daily closedDay lastStamp stamp closedTime lastClose =>
    period.fields ++ lastPeriod.fields ++ daily.fields ++ closedDay.fields
      ++ maybeFields (fun x => [stampField x]) lastStamp ++ stampField stamp
      :: maybeFields (fun x => [timeField x]) closedTime ++ maybeFields (fun x => [timeField x]) lastClose
  -- the stations in the order A1 to A8, B1 to B8 (log entry 9)
  | .dayClosed daily sums doubts former now =>
    daily.toList.flatMap Counters.fields ++ sums.fields ++ numberField doubts
      :: maybeFields (fun x => [timeField x]) former ++ [timeField now]
  | .hallSet former => maybeFields (fun n => [numberField n]) former
  | .openRefused mode failed =>
    [nameField mode.ctorIdx, flagField failed.hallId, flagField failed.clock, flagField failed.tariff]
  | .status data => data.fields
  | .clearAllTaken hall => maybeFields (fun n => [numberField n]) hall
  | .hallIdDiffers hall => maybeFields (fun n => [numberField n]) hall

/-- The body of a reply: the outcome word, then the fields. -/
def TaggedReply.body (r : TaggedReply) : List Byte :=
  r.reply.word.code :: fieldBytes (.reply (128 + r.kind) r.reply.word.code) 0 r.reply.fields

/-- The fields of a refusal given at once (12 R189): TAG_IN_USE carries the tag, and the BAD_REQUEST of a
SET_PERIODS the entry it names (08 R131, log entry 29). -/
def OfficeRefusal.fields (r : OfficeRefusal) : List Field :=
  if r.word = .tagInUse then [byteField r.tag]
  else match r.entry with
    | some n => maybeFields (fun n => [numberField n]) (some n)
    | none => []

def OfficeRefusal.body (r : OfficeRefusal) : List Byte :=
  r.word.code :: fieldBytes (.reply (128 + r.kind) r.word.code) 0 r.fields

/-! ### Reports (13.2) -/

/-- The way of a DOUBT_CLOSED, with the presenting station and Q of way CARD (05 R95). -/
def DoubtWay.fields (w : DoubtWay) : List Field :=
  nameField w.ctorIdx ::
    match w with
    | .card st q => [byteField 1, stationField st, byteField 1, seqField q]
    | _ => [byteField 0, byteField 0]

/-- The fields after the overflow indication, in the order of the report's rule. -/
def Report.fields : Report → List Field
  | .stationJoined st => [stationField st]
  | .stationGone st cause => [stationField st, nameField cause.ctorIdx]
  | .stationLeaving st => [stationField st]
  | .stationState st former new cause score cleanCalls errors time =>
    [stationField st, nameField former.ctorIdx, nameField new.ctorIdx, nameField cause.ctorIdx,
      numberField score, numberField cleanCalls] ++ errors.fields ++ [timeField time]
  | .lineStuck l time => [nameField l.ctorIdx, timeField time]
  | .doubtRaised card sale st kind cause expected riding entries =>
    [field32 card, field16 sale, stationField st, nameField kind.ctorIdx, nameField cause.ctorIdx,
      seqField expected] ++ ridingFields riding ++ [numberField entries]
  | .doubtClosed card sale st how way journal entries =>
    [field32 card, field16 sale, stationField st, nameField how.ctorIdx] ++ way.fields
      ++ [field32 journal, numberField entries]
  | .staleMemory card st reason q balance l lastBalance lastWriter =>
    [field32 card, stationField st, nameField reason.ctorIdx, seqField q, moneyField balance,
      seqField l, moneyField lastBalance] ++ lastWriter.fields ++ [nameField 0]
  | .staleDoubt card q e sale => [field32 card, seqField q, seqField e, field16 sale, nameField 1]
  | .creditDelivered card sale st how journal orders total =>
    [field32 card, field16 sale, stationField st, nameField how.ctorIdx, field32 journal]
      ++ listFields amountFields orders ++ [moneyField total]
  | .journalHigh held oldest newest free time =>
    [numberField held, field32 oldest, field32 newest, numberField free, timeField time]
  | .periodChanged event sums =>
    [stampField event.former, stampField event.current, nameField event.kind.ctorIdx,
      nameField event.cause.ctorIdx] ++ sums.fields ++ [timeField event.time]
  | .tariffSwapped former new items cause time =>
    [field16 former, field16 new, numberField items, nameField cause.ctorIdx, timeField time]
  | .warmStart cause entry start mode voided moved =>
    nameField cause.ctorIdx :: maybeFields (fun x => [timeField x]) entry
      ++ [timeField start, nameField mode.ctorIdx, numberField voided, numberField moved]

/-- The body of a report: the overflow indication, then the fields. -/
def Report.body (r : Report) (overflow : Bool) : List Byte :=
  (if overflow then 1 else 0) :: fieldBytes (.report r.kind) 0 r.fields

end Sys2Proof.Machine
end

