-- ==== Sys2Proof/Machine/Formats.lean ====
section
/-! DEFINITION. Chapter 13: the two checks, the office frame and the lane frames with what they are read
as, and the two receivers that collect frames byte by byte. -/

namespace Sys2Proof.Machine

open Sys2Proof

/-! ### The two checks (13 R199) -/

def crc8Shift (crc : BitVec 8) : BitVec 8 :=
  if crc.msb then (crc <<< 1) ^^^ 0x07#8 else crc <<< 1

/-- The card CRC-8: polynomial x⁸ + x² + x + 1, initial value 0, each byte most significant bit first. -/
def crc8 (bytes : List Byte) : BitVec 8 :=
  bytes.foldl (fun crc b => Nat.repeat crc8Shift 8 (crc ^^^ b)) 0#8

def crc16Shift (crc : BitVec 16) : BitVec 16 :=
  if crc.msb then (crc <<< 1) ^^^ 0x1021#16 else crc <<< 1

/-- The frame CRC-16: polynomial x¹⁶ + x¹² + x⁵ + 1, initial value 65,535. -/
def crc16 (bytes : List Byte) : BitVec 16 :=
  bytes.foldl (fun crc b => Nat.repeat crc16Shift 8 (crc ^^^ (b ++ 0#8))) 0xFFFF#16

/-! ### Joined bytes, most significant byte first (13 R198) -/

def join16 (b1 b0 : Byte) : BitVec 16 := b1 ++ b0

def join24 (b2 b1 b0 : Byte) : BitVec 24 := b2 ++ b1 ++ b0

def join32 (b3 b2 b1 b0 : Byte) : BitVec 32 := b3 ++ b2 ++ b1 ++ b0

/-! ### The card blocks (13.4), read from their bytes -/

def IdentityBlock.ofBytes : List Byte → Option IdentityBlock
  | [c3, c2, c1, c0, d1, d0, k, x] =>
    some { card := join32 c3 c2 c1 c0, issueDay := join16 d1 d0, kind := k, check := x }
  | _ => none

def PurseSlot.ofBytes : List Byte → Option PurseSlot
  | [s1, s0, b2, b1, b0, h, w1, w0, d1, d0, a1, a0, t2, t1, t0, x] =>
    some
      { sequence := join16 s1 s0
        balance := join24 b2 b1 b0
        writerHall := h
        writerSale := join16 w1 w0
        stampDay := join16 d1 d0
        allowanceUsed := join16 a1 a0
        stampPeriod := (join24 t2 t1 t0).extractLsb' 21 3
        spendToday := (join24 t2 t1 t0).extractLsb' 0 21
        check := x }
  | _ => none

/-! ### The lane answer (13.3) -/

/-- What a valid answer says (09 R152). -/
inductive AnswerKind where
  | nothing
  | request (request : StationRequest)
  | wait
  | join
  | leave
  deriving DecidableEq, Repr

structure Answer where
  address : Byte
  kind : AnswerKind
  number : Byte
  lastSeen : Option Byte
  deriving DecidableEq, Repr

/-- A slot of a card image: a presence byte, then the 16-byte slot image when present (13.3). -/
def takeSlotImage : List Byte → Option (Option PurseSlot × List Byte)
  | [] => none
  | b :: rest =>
    if b = 0 then some (none, rest)
    else if b = 1 then (PurseSlot.ofBytes (rest.take 16)).map fun p => (some p, rest.drop 16)
    else none

/-- The card image of a SALE_OPEN or REVERSE (13.3). -/
def takeImage (bytes : List Byte) : Option (CardImage × List Byte) := do
  let identity ← IdentityBlock.ofBytes (bytes.take 8)
  let (slot0, rest) ← takeSlotImage (bytes.drop 8)
  let (slot1, rest) ← takeSlotImage rest
  some ({ identity := identity, slot0 := slot0, slot1 := slot1 }, rest)

/-- Basket lines of 3 bytes each, to the end of the body. -/
def readLines : List Byte → Option (List BasketLine)
  | [] => some []
  | c1 :: c0 :: q :: rest =>
    (readLines rest).map fun ls => { code := join16 c1 c0, quantity := q } :: ls
  | _ => none

/-- A REQUEST body; none where it names no request, cannot be read as the request it names, or has a
length other than its fields imply (10 R163, 13.3). -/
def readRequest : List Byte → Option StationRequest
  | [] => none
  | b :: rest =>
    if b = 1 then do
      let (image, rest) ← takeImage rest
      match rest with
      | [] => none
      | n :: rest =>
        if rest.length = 3 * n.toNat then (readLines rest).map fun ls => .saleOpen image ls else none
    else if b = 2 then do
      let (image, rest) ← takeImage rest
      if rest = [] then some (.reverse image) else none
    else
      match rest with
      | [n1, n0] =>
        if b = 3 then some (.saleDone (join16 n1 n0))
        else if b = 4 then some (.saleTorn (join16 n1 n0))
        else if b = 5 then some (.saleCancel (join16 n1 n0))
        else none
      | _ => none

/-- The answer kind and its body, read together (10 R163). -/
def readAnswerKind (kind : Byte) (body : List Byte) : Option AnswerKind :=
  if kind = 1 then (readRequest body).map .request
  else if body ≠ [] then none
  else if kind = 0 then some .nothing
  else if kind = 2 then some .wait
  else if kind = 3 then some .join
  else if kind = 4 then some .leave
  else none

/-- The bytes of an answer between its marker and its check, read as its fields. -/
def readAnswer : List Byte → Option Answer
  | address :: kind :: number :: present :: seen :: _len :: body =>
    if present = 0 ∨ present = 1 then
      (readAnswerKind kind body).map fun k =>
        { address := address, kind := k, number := number
          lastSeen := if present = 1 then some seen else none }
    else none
  | _ => none

/-- What a complete answer frame gives (10 R163): a wrong check is BAD_CHECK whatever else the frame
holds, and a frame that cannot be read is BAD_FORM whatever its address. -/
inductive FrameReading where
  | badCheck
  | badForm
  | answer (answer : Answer)
  deriving DecidableEq, Repr

def readLaneFrame (frame : List Byte) : FrameReading :=
  let inner := (frame.drop 1).dropLast.dropLast
  if frame.drop (frame.length - 2) ≠ be16 (crc16 inner) then .badCheck
  else
    match readAnswer inner with
    | some a => .answer a
    | none => .badForm

/-- Whether the bytes from the lane start marker on make a whole answer frame, by the body length at
offset 6. -/
def laneFrameComplete (got : List Byte) : Bool :=
  match got.drop 6 with
  | len :: _ => decide (len.toNat + 9 ≤ got.length)
  | [] => false

/-- The lane collects an answer frame: bytes before a start marker (195) begin no frame, and bytes
after the frame's last check byte are not part of it. -/
def collectAnswer : List Byte → List Byte → List Byte × Bool
  | got, [] => (got, false)
  | got, b :: bs =>
    if got = [] ∧ b ≠ 195 then collectAnswer [] bs
    else if laneFrameComplete (got ++ [b]) then (got ++ [b], true)
    else collectAnswer (got ++ [b]) bs

def StationRequest.bytes : StationRequest → List Byte
  | .saleOpen image basket =>
    1 :: image.identity.bytes ++ slotBytes image.slot0 ++ slotBytes image.slot1
      ++ BitVec.ofNat 8 basket.length :: basket.flatMap fun l => be16 l.code ++ [l.quantity]
  | .reverse image => 2 :: image.identity.bytes ++ slotBytes image.slot0 ++ slotBytes image.slot1
  | .saleDone n => 3 :: be16 n
  | .saleTorn n => 4 :: be16 n
  | .saleCancel n => 5 :: be16 n
where
  slotBytes : Option PurseSlot → List Byte
    | none => [0]
    | some p => 1 :: p.bytes

def AnswerKind.code : AnswerKind → Byte
  | .nothing => 0
  | .request _ => 1
  | .wait => 2
  | .join => 3
  | .leave => 4

def AnswerKind.body : AnswerKind → List Byte
  | .request r => r.bytes
  | _ => []

/-- The bytes of an answer between marker and check (13.3). -/
def Answer.inner (a : Answer) : List Byte :=
  [a.address, a.kind.code, a.number, if a.lastSeen.isSome then 1 else 0, a.lastSeen.getD 0,
    BitVec.ofNat 8 a.kind.body.length] ++ a.kind.body

/-- A lane frame: the marker 195, the fields, and the CRC-16 over every byte after the marker (13.3). -/
def laneFrame (inner : List Byte) : List Byte := 195 :: inner ++ be16 (crc16 inner)

def Answer.frame (a : Answer) : List Byte := laneFrame a.inner

/-! ### The poll (13.3) -/

def StationState.code : StationState → Byte
  | .absent => 0
  | .pending => 1
  | .good => 2
  | .doubtful => 3
  | .dropped => 4
  | .held => 5
  | .leaving => 6

def PollKind.code : PollKind → Byte
  | .poll => 1
  | .rollCall => 2

def Poll.inner (p : Poll) : List Byte :=
  [BitVec.ofNat 8 (p.addr.val + 1), p.kind.code, p.state.code,
    (if p.reply.isSome then 1 else 0) ||| (if p.busy.isSome then 2 else 0)]
    ++ p.busy.toList
    ++ (match p.reply with
        | none => []
        | some (n, r) =>
          let fields := r.fieldBytes
          n :: r.word.code :: nat16 fields.length ++ fields)

/-- The bytes the part sends on a lane for a poll. -/
def Poll.frame (p : Poll) : List Byte := laneFrame p.inner

/-! ### The office frame (13.2) -/

/-- Offsets 1 to 4 + length, over which the CRC-16 is computed. -/
def officeInner (kind tag : Byte) (body : List Byte) : List Byte :=
  nat16 body.length ++ kind :: tag :: body

/-- A whole office frame: start marker 165, length, kind, tag, body and CRC-16. -/
def officeFrame (kind tag : Byte) (body : List Byte) : List Byte :=
  165 :: officeInner kind tag body ++ be16 (crc16 (officeInner kind tag body))

/-- The bytes the part sends for an outgoing frame: a reply has kind 128 plus its request's, and a report
has tag 0 (13.2, R198). -/
def OutFrame.bytes : OutFrame → List Byte
  | .refusal r => officeFrame (128 + r.kind) r.tag r.body
  | .reply r => officeFrame (128 + r.kind) r.tag r.body
  | .report r overflow => officeFrame r.kind 0 (r.body overflow)

/-- How far the bytes after a start marker have come (12 R188). -/
inductive Collected where
  | more
  | overLimit
  | whole
  deriving DecidableEq, Repr

def collectedSoFar : List Byte → Collected
  | l1 :: l0 :: rest =>
    let len := (join16 l1 l0).toNat
    if Config.bodyLimit < len then .overLimit
    else if rest.length < len + 4 then .more
    else .whole
  | _ => .more

/-- The office receiver takes bytes one by one, up to the last check byte of the first frame it
collects whole (12 R188). A length above 1,024 discards the frame and the hunt goes on from the byte
after the second length byte. -/
def Receiver.collect : Receiver → List Byte → Receiver × Option (List Byte)
  | r, [] => (r, none)
  | .hunting, b :: bs => if b = 165 then collect (.inside []) bs else collect .hunting bs
  | .inside got, b :: bs =>
    match collectedSoFar (got ++ [b]) with
    | .overLimit => collect .hunting bs
    | .whole => (.hunting, some (got ++ [b]))
    | .more => collect (.inside (got ++ [b])) bs

/-- A request frame the receiver has taken. -/
structure TakenFrame where
  kind : Byte
  tag : Byte
  body : List Byte
  deriving DecidableEq, Repr

/-- A frame collected whole is discarded for a wrong check or a reply or report kind (12 R188, 13
R198: kind 64 or above). -/
def takeFrame (got : List Byte) : Option TakenFrame :=
  let inner := got.dropLast.dropLast
  if got.drop (got.length - 2) ≠ be16 (crc16 inner) then none
  else
    match inner with
    | _ :: _ :: kind :: tag :: body =>
      if kind.toNat < 64 then some { kind := kind, tag := tag, body := body } else none
    | _ => none

/-! ### What a request's fields can hold (13 R198) -/

def fits16 (n : Nat) : Bool := decide (n < 65536)

def fits32 (n : Nat) : Bool := decide (n < 4294967296)

/-- Every field whose width R198 states holds a value of that width: card numbers, order ids and
journal numbers 4 bytes; day numbers, hall minutes (SET_PERIODS' start minutes among them) and sale
numbers 2 bytes. A body that spells no such value cannot be read as the request. -/
def HostRequest.fits : HostRequest → Bool
  | .creditOrder order card _ => fits32 order && fits32 card
  | .cancelCredit order => fits32 order
  | .queryCard card => fits32 card
  | .doubtDismiss card sale => fits32 card && fits16 sale
  | .stopAdd cards => cards.all fits32
  | .stopRemove cards => cards.all fits32
  | .rangeSet _ first last _ _ _ => fits32 first && fits32 last
  | .classQuery card => fits32 card
  | .setClock day minute => fits16 day && fits16 minute
  | .setPeriods entries => entries.all fun e => fits16 e.start
  | .journalRelease number => fits32 number
  | .queryCredits _ | .doubtList _ | .saleList | .writeTimerSet _ | .stopClear | .stopList _
  | .rangeClear _ | .rangeDefault _ | .rangeList | .tariffBegin | .tariffItems _ | .tariffGroup _ _
  | .tariffEnd _ | .tariffSwapNow | .tariffList _ _ | .clockRead | .laneSet _ _
  | .laneSettings _ _ _ _ _ | .enroll _ _ | .release _ | .restore _ | .clearStationErrors _
  | .clearLineStuck _ | .laneRead _ | .journalFetch | .totalsRead _ | .dayClose | .setHall _
  | .openHall | .suspend | .resume | .status | .softReset | .clearAll _ => true

/-! ### What a request's body reads as (13 R198; log entry 8) -/

/-- A field of a request's body. R198 fixes the bytes of a figure; a station id that names no station is
one byte outside 1 to 16; a number whose width is not given is taken at any width, unsigned and most
significant byte first, the amount of a CREDIT_ORDER among them; a field whose encoding is not given takes any
bytes, at least so many. -/
inductive BodyField where
  | figure (bytes : List Byte)
  | noStation
  | number (n : Nat)
  | unstated (least : Nat)
  deriving DecidableEq, Repr

/-- The unsigned value of bytes, most significant byte first. -/
def unsignedOf (bs : List Byte) : Nat := bs.foldl (fun n b => 256 * n + b.toNat) 0

/-- Whether the bytes `c` are the field. DESIGN CHOICE (log entry 8): a number is read unsigned, so 200 is the
one amount that the byte 200 spells. No rule gives the sign of a CREDIT_ORDER's amount (06 R107); the scope file
has money non-negative unless a field is said to be signed. -/
def BodyField.takes : BodyField → List Byte → Bool
  | .figure bs, c => decide (c = bs)
  | .noStation, [b] => decide (b = 0 ∨ 16 < b.toNat)
  | .noStation, _ => false
  | .number n, c => decide (c ≠ [] ∧ unsignedOf c = n)
  | .unstated least, c => decide (least ≤ c.length)

/-- Whether the bytes can be cut into the fields, one after another. -/
def fieldsTake : List BodyField → List Byte → Bool
  | [], bs => bs.isEmpty
  | f :: fs, bs =>
    (List.range (bs.length + 1)).any fun k => f.takes (bs.take k) && fieldsTake fs (bs.drop k)

def bodyStation : Option StationId → BodyField
  | some st => .figure [stationCode st]
  | none => .noStation

def PriceItem.bodyFields (i : PriceItem) : List BodyField := [.number i.code, .number i.price, .unstated 1]

/-- The eighteen figures of a TARIFF_GROUP, numbers all, in the order of R139's table. DESIGN CHOICE (log entry
8): the eight subsidies stand before the eight allowances, as in the replies that carry a group's figures. -/
def GroupFigures.bodyFields (f : GroupFigures) : List BodyField :=
  (f.subsidy.toList ++ f.allowance.toList ++ [f.dailyCap, f.overdraft]).map .number

def AskedPeriod.bodyFields (e : AskedPeriod) : List BodyField := [.figure (nat16 e.start), .unstated 1]

/-- A request's fields in the order its rule carries them. Each enumeration and each number takes a byte or
more; what may stand before a list or an alternative, any bytes or none. -/
def HostRequest.bodyFields : HostRequest → List BodyField
  | .creditOrder order card amount => [.figure (nat32 order), .figure (nat32 card), .number amount]
  | .cancelCredit order => [.figure (nat32 order)]
  | .queryCard card | .classQuery card => [.figure (nat32 card)]
  | .doubtDismiss card sale => [.figure (nat32 card), .figure (nat16 sale)]
  | .queryCredits n | .doubtList n | .writeTimerSet n | .stopList n | .rangeClear n | .tariffEnd n
  | .setHall n => [.number n]
  | .stopAdd cards | .stopRemove cards => .unstated 0 :: cards.map fun n => .figure (nat32 n)
  | .rangeSet entry first last group _ _ =>
    [.number entry, .figure (nat32 first), .figure (nat32 last), .number group, .unstated 1]
  | .rangeDefault none => [.figure [0]]
  | .rangeDefault (some g) => [.figure [1], .unstated 0, .number g]
  | .tariffItems items => .unstated 0 :: items.flatMap PriceItem.bodyFields
  | .tariffGroup group figures => .number group :: figures.bodyFields
  | .tariffList _ position => [.unstated 1, .number position]
  | .setClock day minute => [.figure (nat16 day), .figure (nat16 minute)]
  | .setPeriods entries => .unstated 0 :: entries.flatMap AskedPeriod.bodyFields
  | .laneSet _ _ => [.unstated 1, .unstated 1]
  | .laneSettings _ _ _ timeout wait =>
    [.unstated 1, .unstated 1, .unstated 1, .number timeout, .number wait]
  | .enroll st _ => [bodyStation st, .unstated 1]
  | .release st | .restore st | .clearStationErrors st | .totalsRead st => [bodyStation st]
  | .clearLineStuck _ | .laneRead _ => [.unstated 1]
  | .journalRelease number => [.figure (nat32 number)]
  | .clearAll none => [.unstated 1]
  | .clearAll (some hall) => [.unstated 0, .number hall]
  | .saleList | .stopClear | .rangeList | .tariffBegin | .tariffSwapNow | .clockRead | .journalFetch
  | .dayClose | .openHall | .suspend | .resume | .status | .softReset => []

/-- Whether R198 fixes the bytes of the field. -/
def BodyField.fixed : BodyField → Bool
  | .figure _ | .noStation => true
  | .number _ | .unstated _ => false

/-- Whether R198 fixes every field of the request, so that its body's bytes alone spell it: a RANGE_DEFAULT
that carries NONE among them, whose body is a presence byte. -/
def HostRequest.fixed (r : HostRequest) : Bool := r.bodyFields.all BodyField.fixed

/-- Whether a body can be read as the request: every field R198 fixes stands in its place. -/
def HostRequest.readFrom (r : HostRequest) (body : List Byte) : Bool :=
  r.fits && fieldsTake r.bodyFields body

/-- The station a station id byte names. -/
def stationOf (b : Byte) : Option StationId :=
  if 1 ≤ b.toNat ∧ b.toNat ≤ 8 then some ⟨.a, Fin.ofNat 8 (b.toNat - 1)⟩
  else if 9 ≤ b.toNat ∧ b.toNat ≤ 16 then some ⟨.b, Fin.ofNat 8 (b.toNat - 9)⟩
  else none

/-- The requests, among those whose every field R198 fixes, that a body spells. -/
def spelledBy : List Byte → List HostRequest
  | [] =>
    [.saleList, .stopClear, .rangeList, .tariffBegin, .tariffSwapNow, .clockRead, .journalFetch, .dayClose,
      .openHall, .suspend, .resume, .status, .softReset]
  | [b] =>
    [.release (stationOf b), .restore (stationOf b), .clearStationErrors (stationOf b),
      .totalsRead (stationOf b)] ++ if b = 0 then [.rangeDefault none] else []
  | [a, b, c, d] =>
    [.cancelCredit (unsignedOf [a, b, c, d]), .queryCard (unsignedOf [a, b, c, d]),
      .classQuery (unsignedOf [a, b, c, d]), .setClock (unsignedOf [a, b]) (unsignedOf [c, d]),
      .journalRelease (unsignedOf [a, b, c, d])]
  | [a, b, c, d, e, f] => [.doubtDismiss (unsignedOf [a, b, c, d]) (unsignedOf [e, f])]
  | _ => []

/-- What a body is read as: by its bytes alone where they spell a request whose every field R198 fixes, and
else as `reading` says, where the bytes bear it out. -/
def readBody (kind : Byte) (body : List Byte) (reading : Option HostRequest) : Option HostRequest :=
  ((spelledBy body).find? fun r => decide (r.kind = kind)).or
    (reading.filter fun r => decide (r.kind = kind) && r.readFrom body)

/-- Whether every enumerated value is in its list, as 13 R198 asks of a body that can be read. Two kinds of
value are carried though they are not: a station id byte outside 1 to 16, the list that R198 gives it (DEDUCED,
log entry 20), and a period kind in a SET_PERIODS, for its reply to name. -/
def HostRequest.enumerated : HostRequest → Bool
  | .setPeriods entries => entries.all fun e => e.kind.isSome
  | .enroll station _ | .release station | .restore station | .clearStationErrors station
  | .totalsRead station => station.isSome
  | _ => true

end Sys2Proof.Machine
end

