-- ==== Sys2Proof/Machine/Card.lean ====
section
/-! DEFINITION. Chapter 1: the identity check, slot validity, sequence order, the choice of the current
slot, the taking of counters and the filling of a new slot. -/

namespace Sys2Proof.Machine

open Sys2Proof

/-! ### Sequence order (01 R7) -/

/-- a is newer than b. -/
def seqNewer (a b : Seq) : Bool := decide (1 ≤ (a - b).toNat ∧ (a - b).toNat ≤ 32767)

/-- a is older than b: b is newer than a. -/
def seqOlder (a b : Seq) : Bool := seqNewer b a

/-- Neither is newer. -/
def seqOpposed (a b : Seq) : Bool := decide ((a - b).toNat = 32768)

/-! ### The identity block (01 R3, R4) -/

def CardKind.ofCode (k : BitVec 8) : Option CardKind :=
  if k = 0 then some .staff
  else if k = 1 then some .contractor
  else if k = 2 then some .visitor
  else none

/-- The identity check on hall day `day`: the card kind where it passes. DESIGN CHOICE (log entry 24): a
card kind byte above 2 in a lane request is read, and fails here (R4), where R198 would also let the
answer be BAD_FORM. -/
def identityCheck (i : IdentityBlock) (day : Nat) : Option CardKind :=
  if i.check = crc8 i.body ∧ i.issueDay.toNat ≤ day then CardKind.ofCode i.kind else none

/-! ### The purse slots (01 R5, R6, R8) -/

def PurseSlot.writer (p : PurseSlot) : WriterMark := ⟨p.writerHall.toNat, p.writerSale.toNat⟩

def PurseSlot.money (p : PurseSlot) : Int := p.balance.toInt

/-- R6, conditions 2 to 4, of an image that is present. -/
def PurseSlot.valid (p : PurseSlot) : Bool :=
  decide (p.check = crc8 p.body ∧ Config.purseFloor ≤ p.money ∧ p.money ≤ Config.purseLimit
    ∧ p.writerHall.toNat ≤ 63)

/-- A slot image is valid: an absent one is not (R2, R6). -/
def validImage : Option PurseSlot → Option PurseSlot
  | some p => if p.valid then some p else none
  | none => none

/-- The current slot with the index of the target slot, or why the card is DAMAGED (R8). -/
inductive SlotChoice where
  | damaged (reason : DamageReason)
  | current (slot : PurseSlot) (target : SlotIndex)
  deriving DecidableEq, Repr

def selectSlot (image : CardImage) : SlotChoice :=
  match validImage image.slot0, validImage image.slot1 with
  | some p, none => .current p .one
  | none, some q => .current q .zero
  | none, none => .damaged .noValidSlot
  | some p, some q =>
    if seqNewer p.sequence q.sequence then .current p .one
    else if seqNewer q.sequence p.sequence then .current q .zero
    else if seqOpposed p.sequence q.sequence then .damaged .opposed
    else if p = q then .current p .one
    else .damaged .conflict

/-- A valid slot image carries the writer mark of sale `n` of hall `hall` (R11): a writer sale number
of 0 matches no sale. -/
def carriesMark (p : PurseSlot) (hall : Option Nat) (n : Nat) : Bool :=
  decide (hall = some p.writerHall.toNat ∧ p.writerSale.toNat = n ∧ n ≠ 0)

/-! ### The counters (01 R12) -/

/-- U, the allowance used, as taken under the current stamp. -/
def takenAllowance (p : PurseSlot) (now : Stamp) : Nat :=
  if p.stampDay.toNat = now.day ∧ p.stampPeriod.toNat = now.period then p.allowanceUsed.toNat else 0

/-- D, the spend today, as taken under the current stamp. -/
def takenSpend (p : PurseSlot) (now : Stamp) : Nat :=
  if p.stampDay.toNat = now.day then min p.spendToday.toNat Config.spendLimit else 0

/-! ### The new slot (01 R13, R14, R15) -/

/-- The slot with the check R15 gives it. -/
def PurseSlot.sealed (p : PurseSlot) : PurseSlot := { p with check := crc8 p.body }

/-- The fields R13 and R14 share, sealed: the sequence is Q + 1, and the counters are given. -/
def fillSlot (q : Seq) (balance : Int) (hall : Nat) (sale : Nat) (now : Stamp) (allowance spend : Nat) :
    PurseSlot :=
  PurseSlot.sealed
    { sequence := q + 1
      balance := BitVec.ofInt 24 balance
      writerHall := BitVec.ofNat 8 hall
      writerSale := BitVec.ofNat 16 sale
      stampDay := BitVec.ofNat 16 now.day
      allowanceUsed := BitVec.ofNat 16 allowance
      stampPeriod := BitVec.ofNat 3 now.period
      spendToday := BitVec.ofNat 21 spend
      check := 0 }

/-- Allowance used of the new slot: U + A clamped at 65,535 (R13), or U − A_last or 0 (R14, where
the figure A is −A_last). -/
def newAllowance (u : Nat) (a : Int) : Nat := min ((u : Int) + a).toNat Config.allowanceLimit

/-- Spend today of the new slot: D + C clamped at 999,999 (R13), or D − C_last or 0 (R14, where the
figure C is −C_last). -/
def newSpend (d : Nat) (c : Int) : Nat := min ((d : Int) + c).toNat Config.spendLimit

end Sys2Proof.Machine
end

