-- ==== Sys2Proof/Machine/Pricing.lean ====
section
/-! DEFINITION. Chapter 2: the eight stages of pricing, the enquiry, the credit-only presentation, the
cash-only path and the reversal. -/

namespace Sys2Proof.Machine

open Sys2Proof

/-- What the Sale Engine consults once for a request (02 R20): the stamp, the kind, the day number,
the active set and its generation. -/
structure Consulted where
  stamp : Stamp
  kind : PeriodKind
  day : Nat
  active : TariffSet
  generation : Nat
  deriving DecidableEq, Repr

/-- The inputs of pricing on the purse path (02 R22), less the basket. -/
structure PriceInput where
  group : Nat
  allowanceEnabled : Bool
  balance : Int
  u : Nat
  d : Nat
  orders : List CreditOrder
  deriving DecidableEq, Repr

/-- A priced sale: its kind, its figures, its riding orders in arrival order, and B′ (02 R30). -/
structure Priced where
  kind : SaleKind
  figures : Figures
  riding : List CreditOrder
  newBalance : Int
  deriving DecidableEq, Repr

/-- What pricing ends in. -/
inductive Pricing where
  | answered (reply : StationReply)
  | priced (sale : Priced)
  deriving DecidableEq, Repr

def periodIndex (p : Nat) : Fin 8 := Fin.ofNat 8 p

/-- Group g's figures in the active set (02 R19). -/
def groupFigures (t : TariffSet) (g : Nat) : GroupFigures := t.groups.get (Fin.ofNat 8 g)

/-! ### The form of a basket (02 R21) -/

def lineOk (l : BasketLine) : Bool :=
  decide (1 ≤ l.code.toNat ∧ l.code.toNat ≤ 9999 ∧ 1 ≤ l.quantity.toNat ∧ l.quantity.toNat ≤ 9)

/-- The first offending line, counted from 1: a line past the twelfth, or one out of its limits. -/
def offendingLine : Nat → List BasketLine → Option Nat
  | _, [] => none
  | n, l :: ls => if Config.basketLimit < n ∨ ¬ lineOk l then some n else offendingLine (n + 1) ls

/-! ### Stages 1 to 6 -/

/-- The outcome of the lines, stages 1 and 2 without the limit: the gross, or the refusal of the
first line that fails (02 R23, R24). -/
inductive LineTotal where
  | refused (reply : StationReply)
  | total (g : Nat)
  deriving DecidableEq, Repr

def priceLines (items : List PriceItem) (p : Nat) : Nat → List BasketLine → LineTotal
  | _, [] => .total 0
  | n, l :: ls =>
    match items.find? (fun i => i.code = l.code.toNat) with
    | none => .refused (.itemUnknown n l.code.toNat)
    | some i =>
      if i.mask.get (periodIndex p) then
        match priceLines items p (n + 1) ls with
        | .refused r => .refused r
        | .total g => .total (i.price * l.quantity.toNat + g)
      else .refused (.itemNotNow n l.code.toNat p)

/-- The closed-period test (R37), then stages 1 and 2 with the limit of R24. -/
def grossOf (now : Consulted) (basket : List BasketLine) : LineTotal :=
  if basket ≠ [] ∧ now.kind = .closed then .refused (.closedPeriod now.stamp.period)
  else
    match priceLines now.active.items now.stamp.period 1 basket with
    | .refused r => .refused r
    | .total g => if 999999 < g then .refused (.basketTooLarge g) else .total g

/-- Stage 3: the one rounding of the part (02 R25). -/
def subsidyOf (g s : Nat) : Nat := (g * s + 5000) / 10000

/-- R of stage 5: the remaining allowance (02 R26). -/
def remainingAllowance (enabled : Bool) (a u : Nat) : Nat := if enabled then a - u else 0

/-- Stage 7: the walk of the card's PENDING orders (02 R28). -/
def chooseOrders (b c : Int) : Nat → Int → List CreditOrder → List CreditOrder
  | 0, _, _ => []
  | _, _, [] => []
  | n + 1, run, o :: os =>
    if b + run + (o.amount : Int) - c ≤ Config.purseLimit then
      o :: chooseOrders b c n (run + o.amount) os
    else []

def totalOf (orders : List CreditOrder) : Int := (orders.map fun o => (o.amount : Int)).sum

/-- The enquiry reply (02 R34). -/
def enquiryReply (f : GroupFigures) (p : Nat) (i : PriceInput) : StationReply :=
  .balance i.balance
    (remainingAllowance i.allowanceEnabled (f.allowance.get (periodIndex p)) i.u) i.d
    (if f.dailyCap = 0 then none else some (f.dailyCap - i.d)) f.overdraft

/-- Stages 7 and 8 for a charge `c` (02 R28, R29). -/
def settle (i : PriceInput) (f : GroupFigures) (kind : SaleKind) (g s a c : Nat)
    (chosen : List CreditOrder) : Pricing :=
  let k := totalOf chosen
  if i.balance + k - c < -(f.overdraft : Int) then .answered (.insufficient (i.balance + k + f.overdraft))
  else
    .priced
      { kind := kind, figures := { g := g, s := s, a := a, c := c, k := k }
        riding := chosen, newBalance := i.balance + k - c }

/-- Pricing of a SALE_OPEN on the purse path (02 R22 to R29, R34, R35, R37). -/
def priceSale (now : Consulted) (basket : List BasketLine) (i : PriceInput) : Pricing :=
  let f := groupFigures now.active i.group
  if basket = [] then
    let chosen := chooseOrders i.balance 0 Config.ridingLimit 0 i.orders
    if chosen = [] then .answered (enquiryReply f now.stamp.period i)
    else settle i f .credit 0 0 0 0 chosen
  else
    match grossOf now basket with
    | .refused r => .answered r
    | .total g =>
      let s := subsidyOf g (f.subsidy.get (periodIndex now.stamp.period))
      let n := g - s
      let a := min n
        (remainingAllowance i.allowanceEnabled (f.allowance.get (periodIndex now.stamp.period)) i.u)
      let c := n - a
      if f.dailyCap ≠ 0 ∧ f.dailyCap < i.d + c then .answered (.capReached (f.dailyCap - i.d))
      else settle i f .sale g s a c (chooseOrders i.balance c Config.ridingLimit 0 i.orders)

/-! ### The cash-only path (02 R36) -/

/-- The figures G, S and C of a cash-only presentation, or its refusal. -/
inductive CashPrice where
  | refused (reply : StationReply)
  | figures (g s c : Nat)
  deriving DecidableEq, Repr

def priceCash (now : Consulted) (group : Nat) (basket : List BasketLine) : CashPrice :=
  match grossOf now basket with
  | .refused r => .refused r
  | .total g =>
    let s := subsidyOf g ((groupFigures now.active group).subsidy.get (periodIndex now.stamp.period))
    .figures g s (g - s)

/-! ### The reversal (02 R38, R39) -/

/-- The preconditions 2 to 5 in order, on the last-sale part: the part they accept, or the number of
the first that fails. -/
inductive ReversalTest where
  | fails (precondition : Nat)
  | accepts (last : LastSale)
  deriving DecidableEq, Repr

def reversalTest (hall : Option Nat) (now : Stamp) (slot : PurseSlot) (last : Option LastSale) :
    ReversalTest :=
  match last with
  | none => .fails 2
  | some l =>
    if l.kind ≠ .sale ∨ l.reversed then .fails 2
    else if slot.sequence ≠ l.seqAfter ∨ ¬ carriesMark slot hall l.sale then .fails 3
    else if l.stamp ≠ now then .fails 4
    else if Config.purseLimit < slot.money + l.c then .fails 5
    else .accepts l

/-- The reversal figures (02 R39). -/
def reversalPriced (slot : PurseSlot) (l : LastSale) : Priced where
  kind := .reversal
  figures := { g := -(l.a + l.c), s := 0, a := -l.a, c := -l.c, k := 0 }
  riding := []
  newBalance := slot.money + l.c

end Sys2Proof.Machine
end

