-- ==== Sys2Proof/Machine/Ops.lean ====
section
/-! DEFINITION. The operations the blocks share: reading and writing a lane or a station, queueing a
report, handing back a reply, the notices between Sale Engine and lanes, the journal append with its
totals, and the recomputation of the period. -/

namespace Sys2Proof.Machine

open Sys2Proof

/-! ### When the part takes anything (12 R194 to R196) -/

/-- The part does not stand still: main supply is there, the RESET line is not held, and no start is due. -/
def State.started (s : State) : Bool :=
  decide (s.hall.power = .run ∧ s.hall.resetHeld = false ∧ s.hall.startDue = none)

/-- An event that a warm start raised. -/
def BoundaryEvent.ofStart (e : BoundaryEvent) : Bool := decide (e.cause = .warmStart)

/-- R196 step 4 is not over: the Tariff Unit or the Journal and Totals unit has still to take the boundary
event that a warm start raised (log entry 30). -/
def State.settling (s : State) : Bool :=
  s.tariff.boundary.any BoundaryEvent.ofStart || s.totals.boundary.any BoundaryEvent.ofStart

/-- The part takes its work: it does not stand still, and the event of a warm start has been taken. -/
def State.running (s : State) : Bool := s.started && !s.settling

/-- A step of a command that is taken only while the part runs; otherwise nothing is taken (R195, R196). -/
def whenRunning (s : State) (next : State) : Result := .next (if s.running then next else s)

/-- A step of a command that a warm start's own step 4 needs, so that it is taken as soon as the part no
longer stands still (R196). -/
def whenStarted (s : State) (next : State) : Result := .next (if s.started then next else s)

/-! ### Lanes and stations -/

def State.lane (s : State) : Lane → LaneControl
  | .a => s.laneA
  | .b => s.laneB

def State.setLane (s : State) (l : Lane) (x : LaneControl) : State :=
  match l with
  | .a => { s with laneA := x }
  | .b => { s with laneB := x }

def State.station (s : State) (st : StationId) : StationRecord :=
  (s.lane st.lane).stations.get st.addr

def LaneControl.setStation (c : LaneControl) (a : Fin 8) (r : StationRecord) : LaneControl :=
  { c with stations := c.stations.set a r }

def State.setStation (s : State) (st : StationId) (r : StationRecord) : State :=
  s.setLane st.lane ((s.lane st.lane).setStation st.addr r)

/-- The place of a station among the sixteen. -/
def stationGet {α : Type} (t : Sixteen α) (st : StationId) : α :=
  match st.lane with
  | .a => t.lo.get st.addr
  | .b => t.hi.get st.addr

def stationSet {α : Type} (t : Sixteen α) (st : StationId) (x : α) : Sixteen α :=
  match st.lane with
  | .a => { t with lo := t.lo.set st.addr x }
  | .b => { t with hi := t.hi.set st.addr x }

/-- The time the Hall Clock supplies (08 R127). -/
def State.time (s : State) : Time := ⟨s.clock.day, s.clock.minute⟩

/-! ### Reports and replies (12 R189, R191) -/

/-- A report joins the newest end; on a full queue it is dropped and the overflow indication set, and
a frame then being sent no longer clears it (R191). -/
def OfficeLink.queueReport (o : OfficeLink) (r : Report) : OfficeLink :=
  if o.reports.length < Config.reportQueueSize then { o with reports := o.reports ++ [r] }
  else { o with overflow := true, sending := o.sending.map fun x => { x with dropped := true } }

def State.queueReport (s : State) (r : Report) : State :=
  { s with office := s.office.queueReport r }

def State.queueReports (s : State) (rs : List Report) : State := rs.foldl State.queueReport s

/-- A block hands a reply back with the tag of its request (R189). -/
def State.reply (s : State) (h : Handed) (r : HostReply) : State :=
  { s with office := { s.office with
      replies := s.office.replies ++ [{ tag := h.tag, kind := h.request.kind, reply := r }] } }

/-! ### What a lane takes from the Sale Engine (09 R155) -/

/-- R155: the reply takes the slot with its sent mark clear, unless the outstanding request is none,
orphaned or another. -/
def StationRecord.takeReply (r : StationRecord) (n : Byte) (reply : StationReply) : StationRecord :=
  match r.outstanding with
  | none => r
  | some o =>
    if o.orphaned then { r with outstanding := none }
    else if o.request = n then { r with slot := some ⟨n, reply, false⟩ }
    else r

def State.giveReply (s : State) (st : StationId) (n : Byte) (reply : StationReply) : State :=
  s.setStation st ((s.station st).takeReply n reply)

/-- Whether the slot holds the WRITE_ORDER of sale `n`. -/
def StationRecord.holdsOrder (r : StationRecord) (n : Nat) : Bool :=
  match r.slot with
  | some ⟨_, .writeOrder o, _⟩ => decide (o.sale = n)
  | _ => false

/-- The withdrawal of a WRITE_ORDER (R155). -/
def StationRecord.withdraw (r : StationRecord) (n : Nat) : StationRecord :=
  if r.holdsOrder n then { r with slot := none, outstanding := none } else r

def State.withdraw (s : State) (st : StationId) (n : Nat) : State :=
  s.setStation st ((s.station st).withdraw n)

def State.handLoss (s : State) (l : Loss) : State :=
  { s with sale := { s.sale with losses := s.sale.losses ++ [l] } }

/-- The context-opened notice (R155): the flag is set, and a station that is DROPPED, HELD or ABSENT
then gives a loss event at once. -/
def State.contextOpened (s : State) (st : StationId) (n : Nat) : State :=
  let r := s.station st
  let s := s.setStation st { r with contextFlag := some n }
  match r.state with
  | .dropped => s.handLoss ⟨st, .dropped⟩
  | .held => s.handLoss ⟨st, .held⟩
  | .absent => s.handLoss ⟨st, .off⟩
  | _ => s

/-- The context-ended notice (R155, R158): the flag is cleared, and a GOOD or DOUBTFUL station that
asked to leave becomes LEAVING with a STATION_LEAVING report. -/
def State.contextEnded (s : State) (st : StationId) : State :=
  let r := { s.station st with contextFlag := none }
  if r.leaveRequested ∧ (r.state = .good ∨ r.state = .doubtful) then
    (s.setStation st { r with state := .leaving, leaveRequested := false }).queueReport
      (.stationLeaving st)
  else s.setStation st r

/-! ### Becoming ABSENT (09 R146, R149, R156, R158, R159) -/

/-- The values of R146; an outstanding request is kept and marked orphaned, and the context flag
follows the Sale Engine's notices alone. -/
def StationRecord.madeAbsent (r : StationRecord) : StationRecord :=
  { StationRecord.initial with
    outstanding := r.outstanding.map fun o => { o with orphaned := true }
    contextFlag := r.contextFlag }

/-! ### The journal (11 R178, R179, R182, R183) -/

def satAdd (x y : Nat) : Nat := min (x + y) Config.counterLimit

/-- The free count (R179). -/
def JournalTotals.free (j : JournalTotals) : Nat :=
  min (Config.journalSize - j.journal.length)
    (if j.exhausted then 0 else Config.lastJournalNumber + 1 - j.next)

def JournalTotals.oldest (j : JournalTotals) : Option Nat := j.journal.head?.map (·.number)

def JournalTotals.newest (j : JournalTotals) : Option Nat := j.journal.getLast?.map (·.number)

/-- R183: what one record adds to a set of counters. -/
def Counters.count (t : Counters) (r : RecordBody) : Counters :=
  if r.outcome = .voidedAfterDoubt ∨ r.outcome = .unresolved then t
  else
    match r.kind with
    | .sale =>
      { t with
        sales := satAdd t.sales 1, charged := satAdd t.charged r.c.toNat
        subsidy := satAdd t.subsidy r.s.toNat, allowance := satAdd t.allowance r.a.toNat
        credits := satAdd t.credits r.creditTotal.toNat }
    | .credit => { t with credits := satAdd t.credits r.creditTotal.toNat }
    | .reversal =>
      { t with
        reversals := satAdd t.reversals 1, reversalSum := satAdd t.reversalSum (-r.c).toNat }
    | .cash => { t with cashCount := satAdd t.cashCount 1, cashSum := satAdd t.cashSum r.c.toNat }

/-- The sum of two sets, figure by figure, saturating (R184, R186). -/
def Counters.add (t u : Counters) : Counters where
  sales := satAdd t.sales u.sales
  charged := satAdd t.charged u.charged
  subsidy := satAdd t.subsidy u.subsidy
  allowance := satAdd t.allowance u.allowance
  credits := satAdd t.credits u.credits
  reversals := satAdd t.reversals u.reversals
  reversalSum := satAdd t.reversalSum u.reversalSum
  cashCount := satAdd t.cashCount u.cashCount
  cashSum := satAdd t.cashSum u.cashSum

/-- The hall sums over the sixteen stations. -/
def hallSums (t : Sixteen Counters) : Counters := t.toList.foldl Counters.add .zero

/-- R178: the record takes the next number and the time, joins the newest end, and is counted under
its station in the period counters and the day totals (R183); then the next number advances. -/
def JournalTotals.append (j : JournalTotals) (now : Time) (b : RecordBody) : JournalTotals :=
  { j with
    journal := j.journal ++ [{ number := j.next, time := now, body := b }]
    next := if j.next < Config.lastJournalNumber then j.next + 1 else j.next
    exhausted := j.exhausted || decide (Config.lastJournalNumber ≤ j.next)
    period := stationSet j.period b.station ((stationGet j.period b.station).count b)
    daily := stationSet j.daily b.station ((stationGet j.daily b.station).count b) }

/-- R178 with the JOURNAL_HIGH test of R182. The free count of the report is taken after the next journal
number has advanced: R178 names the test before the advance, R182 does not say when the count is taken, and
this is the model's choice (log entry 27). The record just appended is the newest it names. -/
def State.appendRecord (s : State) (b : RecordBody) : State :=
  let j := s.totals.append s.time b
  if s.totals.high = false ∧ j.journal.length = Config.journalHighMark then
    { s with totals := { j with high := true } }.queueReport
      (.journalHigh j.journal.length (s.totals.oldest.getD s.totals.next) s.totals.next j.free s.time)
  else { s with totals := j }

/-! ### The period (08 R130, R133) -/

/-- The first offending entry of a SET_PERIODS, counted from 0 (R131): one past the eighth, one starting
above 1439, one not after the entry before it, or one whose kind is neither MEAL nor CLOSED. -/
def offendingPeriod : Nat → Option Nat → List AskedPeriod → Option Nat
  | _, _, [] => none
  | n, before, e :: es =>
    if 7 < n ∨ 1439 < e.start ∨ (∃ b ∈ before, e.start ≤ b) ∨ e.kind = none then some n
    else offendingPeriod (n + 1) (some e.start) es

/-- The last entry whose start minute is at most `m`, counted from `i`; `found` is the last so far. -/
def lastStarted (m : Nat) : Nat → Option Nat → List PeriodEntry → Option Nat
  | _, found, [] => found
  | i, found, e :: es => lastStarted m (i + 1) (if e.start ≤ m then some i else found) es

/-- The current period index: the last entry started, else the last entry (R130). -/
def currentIndex (schedule : List PeriodEntry) (m : Nat) : Nat :=
  (lastStarted m 0 none schedule).getD (schedule.length - 1)

def currentKind (schedule : List PeriodEntry) (m : Nat) : PeriodKind :=
  (schedule[currentIndex schedule m]?.map (·.kind)).getD .meal

/-- Whether a recomputation changes the stamp. -/
def HallClock.stampMoves (c : HallClock) : Bool :=
  decide (c.stamp ≠ ⟨c.day, currentIndex c.schedule c.minute⟩)

/-- The stamp and kind a recomputation leaves (R133). -/
def HallClock.recomputed (c : HallClock) : HallClock :=
  { c with
    stamp := ⟨c.day, currentIndex c.schedule c.minute⟩
    kind := currentKind c.schedule c.minute }

/-- R133, R134: recompute the period; a changed stamp raises one boundary event, handed to the Tariff
Unit and to the Journal and Totals unit. -/
def State.recompute (s : State) (cause : BoundaryCause) : State :=
  let c := s.clock.recomputed
  if s.clock.stampMoves then
    let e : BoundaryEvent := ⟨s.clock.stamp, c.stamp, c.kind, cause, s.time⟩
    { s with
      clock := c
      tariff := { s.tariff with boundary := s.tariff.boundary ++ [e] }
      totals := { s.totals with boundary := s.totals.boundary ++ [e] } }
  else { s with clock := c }

end Sys2Proof.Machine
end

