-- ==== Sys2Proof/Machine/Clock.lean ====
section
/-! DEFINITION. Chapter 8, sections 8.1 to 8.3: the Hall Clock, its counting and its requests, and the
write timers that the same seconds run down (04 R74). -/

namespace Sys2Proof.Machine

open Sys2Proof

/-! ### Counting (08 R128) -/

/-- An elapsed second at 59: the count returns to 0, the minute advances, and the day number at a
wrap, saturating at 65535. -/
def HallClock.minuteAdvanced (c : HallClock) : HallClock :=
  if c.minute < 1439 then { c with second := 0, minute := c.minute + 1 }
  else { c with second := 0, minute := 0, day := if c.day < 65535 then c.day + 1 else c.day }

/-- The cause of a minute advance (R133): DAY where it advances the day number. -/
def HallClock.advanceCause (c : HallClock) : BoundaryCause :=
  if c.minuteAdvanced.day = c.day then .minute else .day

/-- A WRITE_ORDERED context's timer loses one second; at 0 its expiry has arrived (04 R74). -/
def Context.second (c : Context) : Context :=
  match c.state with
  | .pricedUnsent => c
  | .writeOrdered t => { c with state := .writeOrdered (t - 1) }

/-- The timers run unless the part stands still: they stop in RETAIN and while the RESET line is held (04
R74, 12 R195). -/
def State.runTimers (s : State) : State :=
  if s.started then { s with sale := { s.sale with contexts := s.sale.contexts.map Context.second } }
  else s

/-- SECONDS_COUNT_ADVANCE (R128, 04 R74): a second that leaves the count below 60. With the clock
unset the count stands and only the timers run. -/
def execSecondsCountAdvance (s : State) : Result :=
  .next <|
    if s.clock.isSet = false then s.runTimers
    else if s.clock.second < 59 then
      { s with clock := { s.clock with second := s.clock.second + 1 } }.runTimers
    else s

/-- MINUTE_ADVANCE (R128, R133): the second that passes 59. The period is recomputed unless the part
stands still: in RETAIN and under a held RESET line the clock counts without it (12 R195). DESIGN CHOICE (log
entry 5): while a start is due in RUN and not yet performed, it counts without it too. -/
def execMinuteAdvance (s : State) : Result :=
  .next <|
    if s.clock.isSet ∧ 59 ≤ s.clock.second then
      let cause := s.clock.advanceCause
      let s' := { s with clock := s.clock.minuteAdvanced }
      if s.started then s'.runTimers.recompute cause else s'
    else s

/-! ### The host's requests -/

/-- SET_CLOCK (R129). -/
def State.setClock (s : State) (h : Handed) (day minute : Nat) : State :=
  if 1439 < minute then s.reply h (.badMinute minute)
  else if day < s.clock.day then s.reply h (.clockBackward s.clock.day s.clock.minute)
  else
    let c := { s.clock with isSet := true, day := day, minute := minute, second := 0 }
    let s' := { s with clock := c }.recompute .setClock
    s'.reply h
      (.clockSet s.clock.day s.clock.minute day minute s'.clock.stamp s'.clock.kind c.stampMoves)

/-- The schedule that a SET_PERIODS without an offending entry carries. -/
def scheduleOf (entries : List AskedPeriod) : List PeriodEntry :=
  entries.filterMap fun e => e.kind.map (PeriodEntry.mk e.start)

/-- SET_PERIODS (R131). An entry whose kind is neither MEAL nor CLOSED never reaches the clock: test 4 of
12 R189 refuses it at once, naming the entry (log entry 29). -/
def State.setPeriods (s : State) (h : Handed) (entries : List AskedPeriod) : State :=
  if entries = [] ∨ offendingPeriod 0 none entries ≠ none then
    s.reply h (.badPeriods (offendingPeriod 0 none entries))
  else
    let c := { s.clock with schedule := scheduleOf entries }
    let s' := { s with clock := c }.recompute .setPeriods
    s'.reply h (.periodsSet s.clock.schedule s'.clock.stamp s'.clock.kind c.stampMoves)

def State.clockTaken (s : State) (rest : List Handed) : State :=
  { s with clock := { s.clock with inbox := rest } }

/-- SET_CLOCK (R129). -/
def execSetClock (s : State) : Result :=
  whenRunning s <|
    match s.clock.inbox with
    | ⟨tag, .setClock day minute⟩ :: rest =>
      (s.clockTaken rest).setClock ⟨tag, .setClock day minute⟩ day minute
    | _ => s

/-- SET_PERIODS (R131). -/
def execSetPeriods (s : State) : Result :=
  whenRunning s <|
    match s.clock.inbox with
    | ⟨tag, .setPeriods entries⟩ :: rest =>
      (s.clockTaken rest).setPeriods ⟨tag, .setPeriods entries⟩ entries
    | _ => s

/-- CLOCK_READ (R132). -/
def execClockRead (s : State) : Result :=
  whenRunning s <|
    match s.clock.inbox with
    | ⟨tag, .clockRead⟩ :: rest =>
      (s.clockTaken rest).reply ⟨tag, .clockRead⟩
        (.clock s.clock.isSet s.clock.day s.clock.minute s.clock.second s.clock.schedule
          s.clock.stamp s.clock.kind)
    | _ => s

end Sys2Proof.Machine
end

