-- ==== Sys2Proof/Machine/Decoder.lean ====
section
/-! DEFINITION. Chapter 3: the Card Class Decoder, its decode and the commands by which it takes the
host's requests. -/

namespace Sys2Proof.Machine

open Sys2Proof

/-! ### The decode (03 R41) -/

def CardRange.covers (r : CardRange) (card : Nat) : Bool := decide (r.first ≤ card ∧ card ≤ r.last)

/-- The first entry, from number `i` upward, that holds a range covering the card. -/
def firstCovering (card : Nat) : Nat → List (Option CardRange) → Option (Nat × CardRange)
  | _, [] => none
  | i, none :: es => firstCovering card (i + 1) es
  | i, some r :: es => if r.covers card then some (i, r) else firstCovering card (i + 1) es

def Decoder.decode (d : Decoder) (card : Nat) : ClassResult :=
  if card ∈ d.stop then .stopped
  else
    match firstCovering card 0 d.ranges.toList with
    | some (i, r) => if r.purse then .purse r.group r.allowance i else .cashOnly r.group (some i)
    | none =>
      match d.defaultClass with
      | none => .unknown
      | some g => .cashOnly g none

/-! ### The Stop List (03 R43, R46 to R48) -/

/-- A number takes its ascending place. -/
def insertAscending (n : Nat) : List Nat → List Nat
  | [] => [n]
  | m :: ms => if n < m then n :: m :: ms else m :: insertAscending n ms

/-- R46: the numbers in the order listed, each tested against the list as the earlier ones left it. -/
def stopAddAll : List Nat → List Nat → List Nat × List StopResult
  | stop, [] => (stop, [])
  | stop, n :: ns =>
    if n ∈ stop then ((stopAddAll stop ns).1, .already :: (stopAddAll stop ns).2)
    else if stop.length < Config.stopListSize then
      ((stopAddAll (insertAscending n stop) ns).1,
        .added :: (stopAddAll (insertAscending n stop) ns).2)
    else ((stopAddAll stop ns).1, .full :: (stopAddAll stop ns).2)

/-- R47. -/
def stopRemoveAll : List Nat → List Nat → List Nat × List StopResult
  | stop, [] => (stop, [])
  | stop, n :: ns =>
    if n ∈ stop then
      ((stopRemoveAll (stop.erase n) ns).1, .removed :: (stopRemoveAll (stop.erase n) ns).2)
    else ((stopRemoveAll stop ns).1, .absent :: (stopRemoveAll stop ns).2)

def Decoder.stopAdd (d : Decoder) (cards : List Nat) : Decoder × HostReply :=
  if cards.length = 0 ∨ 16 < cards.length then (d, .badRequest)
  else
    let (stop, results) := stopAddAll d.stop cards
    ({ d with stop := stop }, .stopResults results stop.length)

def Decoder.stopRemove (d : Decoder) (cards : List Nat) : Decoder × HostReply :=
  if cards.length = 0 ∨ 16 < cards.length then (d, .badRequest)
  else
    let (stop, results) := stopRemoveAll d.stop cards
    ({ d with stop := stop }, .stopResults results stop.length)

/-- R48. -/
def Decoder.stopClear (d : Decoder) : Decoder × HostReply :=
  ({ d with stop := [] }, .stopCleared d.stop.length)

/-- R52. -/
def Decoder.stopList (d : Decoder) (position : Nat) : Decoder × HostReply :=
  if 511 < position then (d, .badRequest)
  else (d, .stopPage d.stop.length ((d.stop.drop position).take 32))

/-! ### The range table and the default class (03 R49 to R52) -/

/-- R49. -/
def Decoder.rangeSet (d : Decoder) (n : Nat) (r : CardRange) : Decoder × HostReply :=
  if 15 < n ∨ r.last < r.first ∨ 7 < r.group then (d, .badRequest)
  else
    ({ d with ranges := d.ranges.setN (Fin.ofNat 16 n) (some r) },
      .formerRange (d.ranges.getN (Fin.ofNat 16 n)))

/-- R50. -/
def Decoder.rangeClear (d : Decoder) (n : Nat) : Decoder × HostReply :=
  if 15 < n then (d, .badRequest)
  else
    ({ d with ranges := d.ranges.setN (Fin.ofNat 16 n) none },
      .formerRange (d.ranges.getN (Fin.ofNat 16 n)))

/-- R51. -/
def Decoder.rangeDefault (d : Decoder) (g : Option Nat) : Decoder × HostReply :=
  if 7 < g.getD 0 then (d, .badRequest)
  else ({ d with defaultClass := g }, .formerDefault d.defaultClass)

def Decoder.rangeCount (d : Decoder) : Nat := (d.ranges.toList.filter Option.isSome).length

/-! ### The commands -/

/-- The decoder takes the request at the head of its inbox, whole, and its reply is handed back. -/
def State.decoderTakes (s : State) (h : Handed) (rest : List Handed)
    (f : Decoder → Decoder × HostReply) : State :=
  let out := f { s.decoder with inbox := rest }
  { s with decoder := out.1 }.reply h out.2

/-- STOP_ADD (R46). -/
def execStopAdd (s : State) : Result :=
  whenRunning s <|
    match s.decoder.inbox with
    | ⟨tag, .stopAdd cards⟩ :: rest =>
      s.decoderTakes ⟨tag, .stopAdd cards⟩ rest fun d => d.stopAdd cards
    | _ => s

/-- STOP_REMOVE (R47). -/
def execStopRemove (s : State) : Result :=
  whenRunning s <|
    match s.decoder.inbox with
    | ⟨tag, .stopRemove cards⟩ :: rest =>
      s.decoderTakes ⟨tag, .stopRemove cards⟩ rest fun d => d.stopRemove cards
    | _ => s

/-- STOP_CLEAR (R48). -/
def execStopClear (s : State) : Result :=
  whenRunning s <|
    match s.decoder.inbox with
    | ⟨tag, .stopClear⟩ :: rest => s.decoderTakes ⟨tag, .stopClear⟩ rest Decoder.stopClear
    | _ => s

/-- STOP_LIST (R52). -/
def execStopList (s : State) : Result :=
  whenRunning s <|
    match s.decoder.inbox with
    | ⟨tag, .stopList p⟩ :: rest => s.decoderTakes ⟨tag, .stopList p⟩ rest fun d => d.stopList p
    | _ => s

/-- RANGE_SET (R49). -/
def execRangeSet (s : State) : Result :=
  whenRunning s <|
    match s.decoder.inbox with
    | ⟨tag, .rangeSet n first last group purse allowance⟩ :: rest =>
      s.decoderTakes ⟨tag, .rangeSet n first last group purse allowance⟩ rest fun d =>
        d.rangeSet n ⟨first, last, group, purse, allowance⟩
    | _ => s

/-- RANGE_CLEAR (R50). -/
def execRangeClear (s : State) : Result :=
  whenRunning s <|
    match s.decoder.inbox with
    | ⟨tag, .rangeClear n⟩ :: rest => s.decoderTakes ⟨tag, .rangeClear n⟩ rest fun d => d.rangeClear n
    | _ => s

/-- RANGE_DEFAULT (R51). -/
def execRangeDefault (s : State) : Result :=
  whenRunning s <|
    match s.decoder.inbox with
    | ⟨tag, .rangeDefault g⟩ :: rest =>
      s.decoderTakes ⟨tag, .rangeDefault g⟩ rest fun d => d.rangeDefault g
    | _ => s

/-- RANGE_LIST (R52). -/
def execRangeList (s : State) : Result :=
  whenRunning s <|
    match s.decoder.inbox with
    | ⟨tag, .rangeList⟩ :: rest =>
      s.decoderTakes ⟨tag, .rangeList⟩ rest fun d => (d, .ranges d.ranges d.defaultClass)
    | _ => s

/-- CLASS_QUERY (R52). -/
def execClassQuery (s : State) : Result :=
  whenRunning s <|
    match s.decoder.inbox with
    | ⟨tag, .classQuery card⟩ :: rest =>
      s.decoderTakes ⟨tag, .classQuery card⟩ rest fun d => (d, .classResult (d.decode card))
    | _ => s

end Sys2Proof.Machine
end

