-- ==== Sys2Proof/Machine/Engine.lean ====
section
/-! DEFINITION. The collections of the Sale Engine and the changes its rules name: Card Memory
(chapter 7), the Credit List (chapter 6), sale numbers, commits, voids and moves to doubt (chapter 4),
and the ends of a doubt entry (chapter 5). -/

namespace Sys2Proof.Machine

open Sys2Proof

/-! ### Card Memory (07) -/

def findCard (m : List CardRecord) (card : Nat) : Option CardRecord := m.find? fun r => r.card = card

/-- A record takes its place in ascending card number. -/
def insertCard (r : CardRecord) : List CardRecord → List CardRecord
  | [] => [r]
  | x :: xs => if r.card < x.card then r :: x :: xs else x :: insertCard r xs

def updateCard (m : List CardRecord) (card : Nat) (f : CardRecord → CardRecord) : List CardRecord :=
  m.map fun r => if r.card = card then f r else r

/-- Times compare by day number first and hall minute second (R119). -/
def timeBefore (a b : Time) : Bool := decide (a.day < b.day ∨ (a.day = b.day ∧ a.minute < b.minute))

/-- Of two records, the one that is evicted first: the older last-seen time, then the lower card. -/
def evictedFirst (a b : CardRecord) : Bool :=
  timeBefore a.lastSeen b.lastSeen || (decide (a.lastSeen = b.lastSeen) && decide (a.card < b.card))

/-- The record to evict among those with both flags clear (R119). -/
def victim : List CardRecord → Option CardRecord
  | [] => none
  | r :: rs =>
    if r.inUse = none ∧ r.doubt = false then
      match victim rs with
      | none => some r
      | some v => if evictedFirst v r then some v else some r
    else victim rs

/-- Room for a new record: on a full map one record is evicted (R119). -/
def makeRoom (m : List CardRecord) : List CardRecord :=
  if m.length < Config.cardMemorySize then m
  else
    match victim m with
    | some v => m.filter fun r => r.card ≠ v.card
    | none => m

/-- The record step 6 creates (R119). -/
def newCard (card : Nat) (p : PurseSlot) (now : Time) : CardRecord where
  card := card
  seq := p.sequence
  balance := p.money
  writer := p.writer
  lastSeen := now
  inUse := none
  doubt := false
  lastSale := none

/-- The comparison of R120: none where the card passes. -/
def staleReason (r : CardRecord) (p : PurseSlot) : Option StaleReason :=
  if seqNewer p.sequence r.seq then none
  else if p.sequence = r.seq then (if p.money = r.balance then none else some .conflict)
  else if seqOlder p.sequence r.seq then some .older
  else some .opposed

/-- The record after the comparison (R120). -/
def meetRecord (r : CardRecord) (p : PurseSlot) (now : Time) : CardRecord :=
  if seqNewer p.sequence r.seq then
    { r with seq := p.sequence, balance := p.money, writer := p.writer, lastSeen := now }
  else if p.sequence = r.seq ∧ p.money = r.balance then { r with writer := p.writer, lastSeen := now }
  else { r with lastSeen := now }

def State.mapCard (s : State) (card : Nat) (f : CardRecord → CardRecord) : State :=
  { s with sale := { s.sale with memory := updateCard s.sale.memory card f } }

def CardRecord.setInUse (u : Option StationId) (r : CardRecord) : CardRecord := { r with inUse := u }

def CardRecord.setDoubt (d : Bool) (r : CardRecord) : CardRecord := { r with doubt := d }

/-- R122 step 2: the part holding the reversed sale's journal number is marked. -/
def CardRecord.markReversed (reversed : Option Nat) (r : CardRecord) : CardRecord :=
  { r with lastSale := r.lastSale.map fun l =>
      if reversed = some l.journal then { l with reversed := true } else l }

/-- The last-sale part of a committed sale (R122). -/
def SaleData.lastSale (d : SaleData) (journal : Nat) : LastSale where
  sale := d.sale
  journal := journal
  kind := d.kind
  c := d.figures.c
  a := d.figures.a
  stamp := d.stamp
  seqAfter := d.expected
  reversed := false

/-- The last-sale part set to a committed sale (R122 step 3, R123). -/
def CardRecord.setLastSale (d : SaleData) (journal : Nat) (r : CardRecord) : CardRecord :=
  { r with lastSale := some (d.lastSale journal) }

/-- L, last balance and last writer set from a sale (R122 step 1). -/
def CardRecord.setWritten (d : SaleData) (hall : Option Nat) (r : CardRecord) : CardRecord :=
  { r with seq := d.expected, balance := d.newBalance, writer := ⟨hall.getD 0, d.sale⟩ }

/-- R122: the record at a commit. -/
def CardRecord.committed (d : SaleData) (hall : Option Nat) (journal : Nat) (now : Time)
    (r : CardRecord) : CardRecord :=
  { ((r.setWritten d hall).markReversed d.reversed).setLastSale d journal with
    inUse := none, lastSeen := now }

/-- R123: the record at a late commit; L advances only when E is newer. -/
def CardRecord.committedLate (d : SaleData) (hall : Option Nat) (journal : Nat) (now : Time)
    (r : CardRecord) : CardRecord :=
  let r' := if seqNewer d.expected r.seq then r.setWritten d hall else r
  { (r'.markReversed d.reversed).setLastSale d journal with lastSeen := now }

/-! ### The Credit List (06) -/

/-- R110: each chosen order is set to RIDING on the sale. -/
def rideOrders (ids : List Nat) (sale : Nat) (credits : List CreditOrder) : List CreditOrder :=
  credits.map fun o => if o.id ∈ ids then { o with state := .riding sale } else o

/-- R112: each named order returns to PENDING in its place. -/
def returnOrders (ids : List Nat) (credits : List CreditOrder) : List CreditOrder :=
  credits.map fun o => if o.id ∈ ids then { o with state := .pending } else o

/-- R106: the named orders leave their places. -/
def removeOrders (ids : List Nat) (credits : List CreditOrder) : List CreditOrder :=
  credits.filter fun o => decide (o.id ∉ ids)

/-- The ids and amounts of the named orders, in arrival order. -/
def namedOrders (ids : List Nat) (credits : List CreditOrder) : List (Nat × Nat) :=
  (credits.filter fun o => decide (o.id ∈ ids)).map fun o => (o.id, o.amount)

def State.mapCredits (s : State) (f : List CreditOrder → List CreditOrder) : State :=
  { s with sale := { s.sale with credits := f s.sale.credits } }

/-- Orders with their places, counted from 1 (R106). -/
def placeOrders : Nat → List CreditOrder → List PlacedOrder
  | _, [] => []
  | n, o :: os => ⟨n, o⟩ :: placeOrders (n + 1) os

/-- R111: the riding orders leave the list, and CREDIT_DELIVERED is queued for a sale that named any. -/
def State.deliverOrders (s : State) (d : SaleData) (how : SaleEnd) (journal : Nat) : State :=
  let orders := namedOrders d.riding s.sale.credits
  let s := s.mapCredits (removeOrders d.riding)
  if d.riding = [] then s
  else s.queueReport (.creditDelivered d.card d.sale d.station how journal orders d.figures.k)

/-! ### Sale numbers and contexts (04 R64) -/

def nextSaleNumber (n : Nat) : Nat := if 65535 ≤ n then 1 else n + 1

/-- The counter passed over the held numbers, at most `fuel` of them. -/
def passHeld (held : List Nat) : Nat → Nat → Nat
  | 0, n => n
  | fuel + 1, n => if n ∈ held then passHeld held fuel (nextSaleNumber n) else n

def SaleEngine.heldNumbers (e : SaleEngine) : List Nat :=
  e.contexts.map (·.data.sale) ++ e.doubts.map (·.data.sale)

/-- The number the engine assigns to the next context. -/
def SaleEngine.assignedNumber (e : SaleEngine) : Nat :=
  passHeld e.heldNumbers e.heldNumbers.length e.counter

/-- A context takes its place in ascending sale number. -/
def insertContext (c : Context) : List Context → List Context
  | [] => [c]
  | x :: xs => if c.data.sale < x.data.sale then c :: x :: xs else x :: insertContext c xs

def SaleEngine.contextOf (e : SaleEngine) (st : StationId) : Option Context :=
  e.contexts.find? fun c => c.data.station = st

def SaleEngine.contextOfCard (e : SaleEngine) (card : Nat) : Option Context :=
  e.contexts.find? fun c => c.data.card = card

/-- The context of a station with a sale number. -/
def SaleEngine.contextAt (e : SaleEngine) (st : StationId) (n : Nat) : Option Context :=
  e.contexts.find? fun c => decide (c.data.station = st ∧ c.data.sale = n)

def SaleEngine.doubtOfCard (e : SaleEngine) (card : Nat) : Option DoubtEntry :=
  e.doubts.find? fun d => d.data.card = card

def SaleEngine.doubtAt (e : SaleEngine) (st : StationId) (n : Nat) : Option DoubtEntry :=
  e.doubts.find? fun d => decide (d.data.station = st ∧ d.data.sale = n)

def State.removeContext (s : State) (n : Nat) : State :=
  { s with sale := { s.sale with contexts := s.sale.contexts.filter fun c => c.data.sale ≠ n } }

def State.setNote (s : State) (st : StationId) (n : Nat) (how : SaleEnd) : State :=
  { s with sale := { s.sale with lastClosed := stationSet s.sale.lastClosed st (some ⟨n, how⟩) } }

/-! ### The journal record of a sale (11 R177) -/

def SaleKind.record : SaleKind → RecordKind
  | .sale => .sale
  | .credit => .credit
  | .reversal => .reversal

def SaleData.record (d : SaleData) (o : RecordOutcome) : RecordBody where
  kind := d.kind.record
  outcome := o
  station := d.station
  card := d.card
  cardKind := d.cardKind
  sale := d.sale
  stamp := d.stamp
  generation := d.generation
  g := d.figures.g
  s := d.figures.s
  a := d.figures.a
  c := d.figures.c
  creditTotal := d.figures.k
  creditIds := d.riding
  balanceAfter := some d.newBalance
  sequenceAfter := if o = .committed ∨ o = .committedLate then some d.expected else none
  reversed := d.reversed

/-! ### The ends of a context (04 R78, R81, R82) -/

/-- R78: the commit, as one change. Its record's number is the journal's next number before it. -/
def State.commit (s : State) (c : Context) : State :=
  let n := s.totals.next
  let s := s.appendRecord (c.data.record .committed)
  let s := s.mapCard c.data.card (CardRecord.committed c.data s.hall.hallId n s.time)
  let s := s.deliverOrders c.data .committed n
  ((s.removeContext c.data.sale).setNote c.data.station c.data.sale .committed).contextEnded
    c.data.station

/-- R81: the void, as one change. -/
def State.voidContext (s : State) (c : Context) : State :=
  let s := s.mapCredits (returnOrders c.data.riding)
  let s := s.mapCard c.data.card (CardRecord.setInUse none)
  let s := if c.state = .pricedUnsent then s.withdraw c.data.station c.data.sale else s
  ((s.removeContext c.data.sale).setNote c.data.station c.data.sale .voided).contextEnded
    c.data.station

/-! ### The ends of a doubt entry (05 R92 to R95) -/

def State.removeDoubt (s : State) (n : Nat) : State :=
  { s with sale := { s.sale with doubts := s.sale.doubts.filter fun d => d.data.sale ≠ n } }

/-- R95: what every end of an entry completes with. -/
def State.closeEntry (s : State) (e : DoubtEntry) (how : SaleEnd) (way : DoubtWay) (journal : Nat) :
    State :=
  let s := s.removeDoubt e.data.sale
  let s := s.mapCard e.data.card (CardRecord.setDoubt false)
  let s := s.setNote e.data.station e.data.sale how
  s.queueReport
    (.doubtClosed e.data.card e.data.sale e.data.station how way journal s.sale.doubts.length)

/-- R92, then R95. -/
def State.endHappened (s : State) (e : DoubtEntry) (way : DoubtWay) : State :=
  let n := s.totals.next
  let s := s.appendRecord (e.data.record .committedLate)
  let s := s.mapCard e.data.card (CardRecord.committedLate e.data s.hall.hallId n s.time)
  let s := s.deliverOrders e.data .committedLate n
  s.closeEntry e .committedLate way n

/-- R93, then R95. -/
def State.endNotHappened (s : State) (e : DoubtEntry) (way : DoubtWay) : State :=
  let n := s.totals.next
  let s := s.appendRecord (e.data.record .voidedAfterDoubt)
  (s.mapCredits (returnOrders e.data.riding)).closeEntry e .voidedAfterDoubt way n

/-- R94, then R95. -/
def State.endUnresolved (s : State) (e : DoubtEntry) (way : DoubtWay) : State :=
  let n := s.totals.next
  let s := s.appendRecord (e.data.record .unresolved)
  (s.mapCredits (removeOrders e.data.riding)).closeEntry e .unresolved way n

/-! ### The move to the Doubt List (04 R82, 05 R89, R90) -/

/-- R90: on a full list the oldest entry is ended UNRESOLVED by way PUSH_OUT. -/
def State.pushOut (s : State) : State :=
  match s.sale.doubts with
  | e :: _ => if Config.doubtListSize ≤ s.sale.doubts.length then s.endUnresolved e .pushOut else s
  | [] => s

def State.addDoubt (s : State) (e : DoubtEntry) : State :=
  { s with sale := { s.sale with doubts := s.sale.doubts ++ [e] } }

/-- R82: the move, as one change. -/
def State.moveToDoubt (s : State) (c : Context) (cause : DoubtCause) : State :=
  let d := c.data
  let s := s.pushOut
  let s := s.addDoubt { data := d, created := s.time, cause := cause }
  let s := s.mapCard d.card fun r => (r.setDoubt true).setInUse none
  let s := s.withdraw d.station d.sale
  let s := s.removeContext d.sale
  let s := s.queueReport
    (.doubtRaised d.card d.sale d.station d.kind cause d.expected d.riding s.sale.doubts.length)
  s.contextEnded d.station

end Sys2Proof.Machine
end

