-- ==== Sys2Proof/Machine/Sale.lean ====
section
/-! DEFINITION. Chapter 4: how the Sale Engine takes its work, the check order of SALE_OPEN and
REVERSE, the completions, and the engine's events. -/

namespace Sys2Proof.Machine

open Sys2Proof

/-! ### Taking work (04 R57, R59, R61) -/

/-- Completions are HIGH, every other request NORMAL (R59). -/
def Work.high : Work → Bool
  | .station _ _ (.saleDone _) => true
  | .station _ _ (.saleTorn _) => true
  | .station _ _ (.saleCancel _) => true
  | _ => false

/-- The request the engine takes: the oldest HIGH entry if there is one, else the oldest (R61). -/
def nextWork (q : List Work) : Option Work := (q.find? Work.high).or q.head?

/-- The queue without that entry, the others keeping their order (R58). -/
def withoutNext (q : List Work) : List Work :=
  if q.any Work.high then q.eraseP Work.high else q.tail

/-- The context's write timer has run out, so its expiry has arrived (R74, R75). -/
def Context.expired (c : Context) : Bool := decide (c.state = .writeOrdered 0)

/-- No event has arrived that is still to be taken (R57). -/
def SaleEngine.quiet (e : SaleEngine) : Bool :=
  decide (e.deliveries = [] ∧ e.losses = []) && !e.contexts.any Context.expired

/-- The request the engine may take now: an arrived event is taken first (R57). -/
def State.nextRequest (s : State) : Option Work :=
  if s.sale.quiet then nextWork s.sale.queue else none

def State.dequeued (s : State) : State :=
  { s with sale := { s.sale with queue := withoutNext s.sale.queue } }

/-- The one consultation of a request (02 R20). -/
def State.consult (s : State) : Consulted where
  stamp := s.clock.stamp
  kind := s.clock.kind
  day := s.clock.day
  active := s.tariff.active
  generation := s.tariff.generation

/-! ### The check order (04 R65) -/

/-- What is presented: a basket to sell, or a reversal. -/
inductive Presented where
  | basket (lines : List BasketLine)
  | reversal
  deriving DecidableEq, Repr

/-- The form test before the steps (R65, 02 R21). -/
def Presented.offence : Presented → Option Nat
  | .basket lines => offendingLine 1 lines
  | .reversal => none

/-- Step 1 (R66): the refusal, or none. -/
def State.step1 (s : State) (st : StationId) (p : Presented) : Option StationReply :=
  let r := s.station st
  if s.hall.mode ≠ .serving then some .notServing
  else if r.state ≠ .good ∧ r.state ≠ .doubtful then some .notServing
  else if p = .reversal ∧ r.role ≠ some .supervisor then some .notPermitted
  else (s.sale.contextOf st).map fun c => .stationBusy c.data.sale

/-- Step 6 (07 R119, R120, R121): the record is found or created and updated; a stale card is refused
with its report. -/
def State.step6 (s : State) (st : StationId) (card : Nat) (p : PurseSlot) :
    State × Option StationReply :=
  match findCard s.sale.memory card with
  | none =>
    ({ s with sale := { s.sale with
        memory := insertCard (newCard card p s.time) (makeRoom s.sale.memory) } }, none)
  | some r =>
    let s' := s.mapCard card fun r => meetRecord r p s.time
    match staleReason r p with
    | none => (s', none)
    | some why =>
      (s'.queueReport (.staleMemory card st why p.sequence p.money r.seq r.balance r.writer),
        some (.staleMemory why card p.sequence r.seq))

/-- Test 1 of 05 R91 on one slot image: valid, holding E, with the writer mark of the sale. -/
def showsSale (hall : Option Nat) (d : SaleData) (image : Option PurseSlot) : Bool :=
  match validImage image with
  | some p => decide (p.sequence = d.expected) && carriesMark p hall d.sale
  | none => false

/-- The results of 05 R91. -/
inductive DoubtResult where
  | happened
  | notHappened
  | unresolvable
  | stale
  deriving DecidableEq, Repr

/-- 05 R91: the tests in order, with d = (Q − E) mod 65536. -/
def doubtResult (hall : Option Nat) (d : SaleData) (image : CardImage) (q : Seq) : DoubtResult :=
  if showsSale hall d image.slot0 ∨ showsSale hall d image.slot1 then .happened
  else if q = d.expected - 1 ∨ q = d.expected ∨ q = d.expected + 1 then .notHappened
  else if seqNewer q (d.expected + 1) then .unresolvable
  else .stale

/-- Step 7 (05 R91 to R97): the card's doubt entry, if any, is resolved, or the request refused. -/
def State.step7 (s : State) (st : StationId) (card : Nat) (image : CardImage) (q : Seq) :
    State × Option StationReply :=
  match s.sale.doubtOfCard card with
  | none => (s, none)
  | some e =>
    match doubtResult s.hall.hallId e.data image q with
    | .happened => (s.endHappened e (.card st q), none)
    | .notHappened => (s.endNotHappened e (.card st q), none)
    | .unresolvable => (s.endUnresolved e (.card st q), none)
    | .stale =>
      (s.queueReport (.staleDoubt card q e.data.expected e.data.sale),
        some (.staleDoubt card q e.data.expected))

/-- Step 8 (R68): the free count exceeds the contexts and the doubt entries. -/
def State.step8 (s : State) : Option StationReply :=
  if s.sale.contexts.length + s.sale.doubts.length < s.totals.free then none
  else some (.journalFull s.totals.free)

/-- The card as steps 2 to 4 have found it. -/
structure MetCard where
  card : Nat
  kind : CardKind
  group : Nat
  allowance : Bool
  slot : PurseSlot
  target : SlotIndex
  deriving DecidableEq, Repr

/-- The card's orders in state PENDING, in arrival order (06 R110). -/
def pendingOrders (credits : List CreditOrder) (card : Nat) : List CreditOrder :=
  credits.filter fun o => decide (o.card = card ∧ o.state = .pending)

/-- Step 9 (02 R22): pricing, or the reversal preconditions and figures; with a REVERSAL comes the
journal number of the sale it reverses. -/
def State.step9 (s : State) (now : Consulted) (m : MetCard) (p : Presented) :
    Pricing × Option Nat :=
  match p with
  | .basket lines =>
    (priceSale now lines
      { group := m.group, allowanceEnabled := m.allowance, balance := m.slot.money
        u := takenAllowance m.slot now.stamp, d := takenSpend m.slot now.stamp
        orders := pendingOrders s.sale.credits m.card }, none)
  | .reversal =>
    match reversalTest s.hall.hallId now.stamp m.slot
        ((findCard s.sale.memory m.card).bind (·.lastSale)) with
    | .fails n => (.answered (.notReversible n), none)
    | .accepts l => (.priced (reversalPriced m.slot l), some l.journal)

/-- The context step 10 creates (R63, R69). -/
def newContext (st : StationId) (n : Nat) (hall : Option Nat) (now : Consulted) (m : MetCard)
    (sale : Priced) (reversed : Option Nat) : Context where
  data :=
    { sale := n
      station := st
      card := m.card
      cardKind := m.kind
      kind := sale.kind
      stamp := now.stamp
      generation := now.generation
      figures := sale.figures
      riding := sale.riding.map (·.id)
      expected := m.slot.sequence + 1
      newBalance := sale.newBalance
      reversed := reversed }
  target := m.target
  slot := fillSlot m.slot.sequence sale.newBalance (hall.getD 0) n now.stamp
    (newAllowance (takenAllowance m.slot now.stamp) sale.figures.a)
    (newSpend (takenSpend m.slot now.stamp) sale.figures.c)
  state := .pricedUnsent

/-- The WRITE_ORDER reply of a context (R69). -/
def Context.order (c : Context) (timer : Nat) : WriteOrder where
  sale := c.data.sale
  card := c.data.card
  kind := c.data.kind
  target := c.target
  slot := c.slot
  figures := c.data.figures
  riding := c.data.riding
  newBalance := c.data.newBalance
  timer := timer

/-- The context joins the table and the counter advances past its number (R64). -/
def State.addContext (s : State) (c : Context) : State :=
  { s with sale := { s.sale with
      contexts := insertContext c s.sale.contexts
      counter := nextSaleNumber c.data.sale } }

/-- Step 10 (R69): the context, its riding orders, the in-use flag, the notice and the WRITE_ORDER. -/
def State.step10 (s : State) (st : StationId) (n : Byte) (now : Consulted) (m : MetCard)
    (sale : Priced) (reversed : Option Nat) : State :=
  let c := newContext st s.sale.assignedNumber s.hall.hallId now m sale reversed
  let s := s.addContext c
  let s := s.mapCredits (rideOrders c.data.riding c.data.sale)
  let s := s.mapCard m.card (CardRecord.setInUse (some st))
  let s := s.contextOpened st c.data.sale
  s.giveReply st n (.writeOrder (c.order s.sale.timerSetting))

/-- Steps 8 to 10 on the purse path. -/
def State.priceAndOpen (s : State) (st : StationId) (n : Byte) (now : Consulted) (m : MetCard)
    (p : Presented) : State :=
  match s.step8 with
  | some r => s.giveReply st n r
  | none =>
    match s.step9 now m p with
    | (.answered r, _) => s.giveReply st n r
    | (.priced sale, reversed) => s.step10 st n now m sale reversed

/-- The CASH record (02 R36, 11 R177). -/
def cashRecord (st : StationId) (card : Nat) (kind : CardKind) (now : Consulted) (g sub c : Nat) :
    RecordBody where
  kind := .cash
  outcome := .committed
  station := st
  card := card
  cardKind := kind
  sale := 0
  stamp := now.stamp
  generation := now.generation
  g := g
  s := sub
  a := 0
  c := c
  creditTotal := 0
  creditIds := []
  balanceAfter := none
  sequenceAfter := none
  reversed := none

/-- The cash-only path (R70, 02 R36): step 8, then the cash pricing, or for a REVERSE the refusal by
the first precondition. -/
def State.cashPath (s : State) (st : StationId) (n : Byte) (now : Consulted) (card : Nat)
    (kind : CardKind) (group : Nat) (p : Presented) : State :=
  match s.step8 with
  | some r => s.giveReply st n r
  | none =>
    match p with
    | .reversal => s.giveReply st n (.notReversible 1)
    | .basket lines =>
      match priceCash now group lines with
      | .refused r => s.giveReply st n r
      | .figures g sub c =>
        if lines = [] then s.giveReply st n (.cashOnly g sub c)
        else (s.appendRecord (cashRecord st card kind now g sub c)).giveReply st n (.cashOnly g sub c)

/-- Steps 6 to 10 on the purse path. -/
def State.pursePath (s : State) (st : StationId) (n : Byte) (now : Consulted) (m : MetCard)
    (image : CardImage) (p : Presented) : State :=
  match s.step6 st m.card m.slot with
  | (s, some r) => s.giveReply st n r
  | (s, none) =>
    match s.step7 st m.card image m.slot.sequence with
    | (s, some r) => s.giveReply st n r
    | (s, none) => s.priceAndOpen st n now m p

/-- Steps 3 to 5 for a card whose identity has passed; a cash-only class leaves the purse path. -/
def State.sortCard (s : State) (st : StationId) (n : Byte) (now : Consulted) (image : CardImage)
    (kind : CardKind) (p : Presented) : State :=
  let card := image.identity.card.toNat
  match s.decoder.decode card with
  | .stopped => s.giveReply st n (.cardStopped card)
  | .unknown => s.giveReply st n (.cardUnknown card)
  | .cashOnly g _ => s.cashPath st n now card kind g p
  | .purse g allowance _ =>
    match selectSlot image with
    | .damaged why => s.giveReply st n (.cardDamaged why (some card))
    | .current slot target =>
      match s.sale.contextOfCard card with
      | some c => s.giveReply st n (.cardInUse c.data.station c.data.sale)
      | none => s.pursePath st n now ⟨card, kind, g, allowance, slot, target⟩ image p

/-- The whole check order of a SALE_OPEN or REVERSE (R65). -/
def State.present (s : State) (st : StationId) (n : Byte) (image : CardImage) (p : Presented) :
    State :=
  match p.offence with
  | some line => s.giveReply st n (.badRequest line)
  | none =>
    match s.step1 st p with
    | some r => s.giveReply st n r
    | none =>
      match identityCheck image.identity s.clock.day with
      | none => s.giveReply st n (.cardDamaged .identity none)
      | some kind => s.sortCard st n s.consult image kind p

/-- SALE_OPEN (R65): the engine takes a queued SALE_OPEN. -/
def execSaleOpen (s : State) : Result :=
  whenRunning s <|
    match s.nextRequest with
    | some (.station st n (.saleOpen image lines)) => s.dequeued.present st n image (.basket lines)
    | _ => s

/-- REVERSE (R71): the engine takes a queued REVERSE. -/
def execReverse (s : State) : Result :=
  whenRunning s <|
    match s.nextRequest with
    | some (.station st n (.reverse image)) => s.dequeued.present st n image .reversal
    | _ => s

/-! ### Completions (04 R76 to R80, 05 R98) -/

/-- What a completion from a station concerns (R76). -/
inductive Found where
  | context (context : Context)
  | doubt (entry : DoubtEntry)
  | closed (how : SaleEnd)
  | nothing
  deriving DecidableEq, Repr

def SaleEngine.found (e : SaleEngine) (st : StationId) (n : Nat) : Found :=
  match e.contextAt st n with
  | some c => .context c
  | none =>
    match e.doubtAt st n with
    | some d => .doubt d
    | none =>
      match stationGet e.lastClosed st with
      | some note => if note.sale = n then .closed note.how else .nothing
      | none => .nothing

/-- SALE_DONE's table (R77). -/
def State.done (s : State) (st : StationId) (n : Nat) : State × StationReply :=
  match s.sale.found st n with
  | .context c =>
    match c.state with
    | .pricedUnsent => (s, .wrongState n)
    | .writeOrdered _ => (s.commit c, .doneOk n s.totals.next c.data.newBalance)
  | .doubt e => (s.endHappened e .lateDone, .late .happened s.totals.next)
  | .closed how => (s, .alreadyClosed how)
  | .nothing => (s, .noSuchSale)

/-- SALE_TORN's table (R79). -/
def State.torn (s : State) (st : StationId) (n : Nat) : State × StationReply :=
  match s.sale.found st n with
  | .context c =>
    match c.state with
    | .pricedUnsent => (s.voidContext c, .saleOk n)
    | .writeOrdered _ => (s.moveToDoubt c .torn, .saleOk n)
  | .doubt _ => (s, .saleOk n)
  | .closed how => (s, .alreadyClosed how)
  | .nothing => (s, .noSuchSale)

/-- SALE_CANCEL's table (R80). -/
def State.cancelled (s : State) (st : StationId) (n : Nat) : State × StationReply :=
  match s.sale.found st n with
  | .context c => (s.voidContext c, .saleOk n)
  | .doubt e => (s.endNotHappened e .lateCancel, .late .notHappened s.totals.next)
  | .closed how => (s, .alreadyClosed how)
  | .nothing => (s, .noSuchSale)

/-- A completion of a PENDING station is refused NOT_SERVING (R76); its reply goes to the lane. -/
def State.complete (s : State) (st : StationId) (number : Byte)
    (table : State → State × StationReply) : State :=
  if (s.station st).state = .pending then s.giveReply st number .notServing
  else (table s).1.giveReply st number (table s).2

/-- SALE_DONE (R77): the engine takes a queued SALE_DONE. -/
def execSaleDone (s : State) : Result :=
  whenRunning s <|
    match s.nextRequest with
    | some (.station st number (.saleDone n)) =>
      s.dequeued.complete st number fun s => s.done st n.toNat
    | _ => s

/-- SALE_TORN (R79): the engine takes a queued SALE_TORN. -/
def execSaleTorn (s : State) : Result :=
  whenRunning s <|
    match s.nextRequest with
    | some (.station st number (.saleTorn n)) =>
      s.dequeued.complete st number fun s => s.torn st n.toNat
    | _ => s

/-- SALE_CANCEL (R80): the engine takes a queued SALE_CANCEL. -/
def execSaleCancel (s : State) : Result :=
  whenRunning s <|
    match s.nextRequest with
    | some (.station st number (.saleCancel n)) =>
      s.dequeued.complete st number fun s => s.cancelled st n.toNat
    | _ => s

/-! ### Events (04 R73, R75, R83) -/

/-- R73: a PRICED_UNSENT context becomes WRITE_ORDERED with its timer at the setting in force. -/
def Context.delivered (timer : Nat) (c : Context) : Context :=
  match c.state with
  | .pricedUnsent => { c with state := .writeOrdered timer }
  | .writeOrdered _ => c

/-- The context of the station and sale number a delivery event names. -/
def Delivery.names (d : Delivery) (c : Context) : Bool :=
  decide (c.data.station = d.station ∧ c.data.sale = d.sale)

/-- DELIVERY_EVENT (R73): the oldest delivery event handed to the engine. -/
def execDeliveryEvent (s : State) : Result :=
  whenRunning s <|
    match s.sale.deliveries with
    | [] => s
    | d :: rest =>
      { s with sale := { s.sale with
          deliveries := rest
          contexts := s.sale.contexts.map fun c =>
            if d.names c then c.delivered s.sale.timerSetting else c } }

/-- WRITE_TIMER_EXPIRY (R75): the context whose timer has run out is moved to doubt, cause TIMER. -/
def execWriteTimerExpiry (n : Nat) (s : State) : Result :=
  whenRunning s <|
    match s.sale.contexts.find? fun c => decide (c.data.sale = n) && c.expired with
    | some c => s.moveToDoubt c .timer
    | none => s

/-- R83's table for a context of the lost station. -/
def State.takeLoss (s : State) (c : Context) : LossCause → State
  | .dropped =>
    match c.state with
    | .pricedUnsent => s.voidContext c
    | .writeOrdered _ => s
  | .held | .off =>
    match c.state with
    | .pricedUnsent => s.voidContext c
    | .writeOrdered _ => s.moveToDoubt c .stationLost

/-- LOSS_EVENT (R83): the oldest loss event handed to the engine. -/
def execLossEvent (s : State) : Result :=
  whenRunning s <|
    match s.sale.losses with
    | [] => s
    | l :: rest =>
      let s := { s with sale := { s.sale with losses := rest } }
      match s.sale.contextOf l.station with
      | some c => s.takeLoss c l.cause
      | none => s

/-! ### Host requests of the engine (04 R74, R85; 05 R100, R101; 06 R107 to R109; 07 R125) -/

/-- The riding sale number and state of an order's card, as refusals carry them. -/
def State.creditOrder (s : State) (h : Handed) (id card amount : Nat) : State :=
  let credits := s.sale.credits
  if amount < 1 ∨ 100000 < amount then s.reply h (.badAmount amount)
  else
    match (placeOrders 1 credits).find? fun p => p.order.id = id with
    | some p => s.reply h (.duplicateOrder p.order.card p.order.amount p.order.state p.place)
    | none =>
      if Config.creditListSize ≤ credits.length then s.reply h (.creditsFull credits.length)
      else
        (s.mapCredits fun l => l ++ [⟨id, card, amount, .pending⟩]).reply h
          (.orderPlaced (credits.length + 1) (credits.length + 1))

/-- CREDIT_ORDER (06 R107). -/
def execCreditOrder (s : State) : Result :=
  whenRunning s <|
    match s.nextRequest with
    | some (.host ⟨tag, .creditOrder id card amount⟩) =>
      s.dequeued.creditOrder ⟨tag, .creditOrder id card amount⟩ id card amount
    | _ => s

/-- R108's table. -/
def State.cancelCredit (s : State) (h : Handed) (id : Nat) : State :=
  match (placeOrders 1 s.sale.credits).find? fun p => p.order.id = id with
  | none => s.reply h .noSuchOrder
  | some p =>
    match p.order.state with
    | .riding n => s.reply h (.orderRiding p.order.card p.order.amount n)
    | .pending =>
      let s := s.mapCredits (removeOrders [id])
      s.reply h (.orderCancelled p.order.card p.order.amount p.place s.sale.credits.length)

/-- CANCEL_CREDIT (06 R108). -/
def execCancelCredit (s : State) : Result :=
  whenRunning s <|
    match s.nextRequest with
    | some (.host ⟨tag, .cancelCredit id⟩) => s.dequeued.cancelCredit ⟨tag, .cancelCredit id⟩ id
    | _ => s

/-- QUERY_CREDITS (06 R109). -/
def execQueryCredits (s : State) : Result :=
  whenRunning s <|
    match s.nextRequest with
    | some (.host ⟨tag, .queryCredits p⟩) =>
      s.dequeued.reply ⟨tag, .queryCredits p⟩
        (if 1023 < p then .badRequest
         else .creditsPage s.sale.credits.length (((placeOrders 1 s.sale.credits).drop p).take 32))
    | _ => s

def ContextState.name : ContextState → ContextStateName
  | .pricedUnsent => .pricedUnsent
  | .writeOrdered _ => .writeOrdered

def ContextState.secondsLeft : ContextState → Option Nat
  | .pricedUnsent => none
  | .writeOrdered t => some t

/-- The reply of QUERY_CARD (07 R125). -/
def State.cardReply (s : State) (card : Nat) : HostReply :=
  let orders := (placeOrders 1 s.sale.credits).filter fun p => p.order.card = card
  .card (findCard s.sale.memory card)
    ((s.sale.contextOfCard card).map fun c =>
      ⟨c.data.station, c.data.sale, c.data.kind, c.state.name⟩)
    (s.sale.doubtOfCard card) orders.length (orders.take 32) (s.decoder.decode card)

/-- QUERY_CARD (07 R125). -/
def execQueryCard (s : State) : Result :=
  whenRunning s <|
    match s.nextRequest with
    | some (.host ⟨tag, .queryCard card⟩) =>
      s.dequeued.reply ⟨tag, .queryCard card⟩ (s.cardReply card)
    | _ => s

/-- R100: the entry of the card with that sale number ends UNRESOLVED by way DISMISS. -/
def State.dismiss (s : State) (h : Handed) (card n : Nat) : State :=
  if n = 0 then s.reply h .badRequest
  else
    match s.sale.doubts.find? fun e => decide (e.data.card = card ∧ e.data.sale = n) with
    | none => s.reply h .noSuchSale
    | some e =>
      (s.endUnresolved e .dismiss).reply h
        (.dismissed s.totals.next (namedOrders e.data.riding s.sale.credits))

/-- DOUBT_DISMISS (05 R100). -/
def execDoubtDismiss (s : State) : Result :=
  whenRunning s <|
    match s.nextRequest with
    | some (.host ⟨tag, .doubtDismiss card n⟩) =>
      s.dequeued.dismiss ⟨tag, .doubtDismiss card n⟩ card n
    | _ => s

/-- DOUBT_LIST (05 R101). -/
def execDoubtList (s : State) : Result :=
  whenRunning s <|
    match s.nextRequest with
    | some (.host ⟨tag, .doubtList p⟩) =>
      s.dequeued.reply ⟨tag, .doubtList p⟩
        (if 63 < p then .badRequest
         else .doubtsPage s.sale.doubts.length ((s.sale.doubts.drop p).take 8))
    | _ => s

/-- One open context as SALE_LIST gives it (R85). -/
def Context.reading (c : Context) : ContextReading where
  sale := c.data.sale
  station := c.data.station
  card := c.data.card
  kind := c.data.kind
  state := c.state.name
  stamp := c.data.stamp
  generation := c.data.generation
  figures := c.data.figures
  riding := c.data.riding
  expected := c.data.expected
  newBalance := c.data.newBalance
  secondsLeft := c.state.secondsLeft

def SaleEngine.highCount (e : SaleEngine) : Nat := (e.queue.filter Work.high).length

def SaleEngine.normalCount (e : SaleEngine) : Nat := e.queue.length - e.highCount

/-- SALE_LIST (R85): the request itself has left the queue. -/
def execSaleList (s : State) : Result :=
  whenRunning s <|
    match s.nextRequest with
    | some (.host ⟨tag, .saleList⟩) =>
      let s := s.dequeued
      s.reply ⟨tag, .saleList⟩
        (.sales s.sale.highCount s.sale.normalCount s.sale.counter s.sale.timerSetting
          (s.sale.contexts.map Context.reading))
    | _ => s

/-- R74: a value below 5 is taken as 5 and one above 60 as 60. -/
def takenTimer (n : Nat) : Nat := max 5 (min 60 n)

/-- WRITE_TIMER_SET (R74). -/
def execWriteTimerSet (s : State) : Result :=
  whenRunning s <|
    match s.nextRequest with
    | some (.host ⟨tag, .writeTimerSet n⟩) =>
      let s := s.dequeued
      { s with sale := { s.sale with timerSetting := takenTimer n } }.reply ⟨tag, .writeTimerSet n⟩
        (.timerSet (takenTimer n) s.sale.timerSetting)
    | _ => s

/-! ### The warm start of the engine (04 R86) -/

def State.voidAll (s : State) (cs : List Context) : State := cs.foldl State.voidContext s

def State.moveAll (s : State) (cs : List Context) : State :=
  cs.foldl (fun s c => s.moveToDoubt c .warmStart) s

/-- The contexts a warm start voids. -/
def SaleEngine.unsent (e : SaleEngine) : List Context :=
  e.contexts.filter fun c => decide (c.state = .pricedUnsent)

/-- The contexts a warm start moves to the Doubt List, in ascending sale number. -/
def SaleEngine.ordered (e : SaleEngine) : List Context :=
  e.contexts.filter fun c => decide (c.state ≠ .pricedUnsent)

/-- R86, steps 1 to 4. -/
def State.warmEngine (s : State) : State :=
  let e := s.sale
  let s := { s with sale := { e with queue := [] } }
  (s.voidAll e.unsent).moveAll e.ordered

end Sys2Proof.Machine
end

