-- ==== Sys2Proof/Machine/Tariff.lean ====
section
/-! DEFINITION. Chapter 8, sections 8.4 and 8.5: the Tariff Unit, the staging of a set and the swap. -/

namespace Sys2Proof.Machine

open Sys2Proof

def Staging.name : Staging → StagingName
  | .empty => .empty
  | .filling _ => .filling
  | .ready _ => .ready

/-- The staged set, when there is one. -/
def Staging.set? : Staging → Option TariffSet
  | .empty => none
  | .filling t => some t
  | .ready t => some t

/-- The staged price list: no items in EMPTY (R136). -/
def Staging.items (g : Staging) : List PriceItem := (g.set?.map (·.items)).getD []

/-! ### TARIFF_ITEMS (R138) -/

def itemOk (i : PriceItem) : Bool :=
  decide (1 ≤ i.code ∧ i.code ≤ 9999 ∧ i.price ≤ 99999 ∧ true ∈ i.mask.toList)

/-- The first offending item, counted from 1: one past the fortieth, or one out of its limits. -/
def offendingItem : Nat → List PriceItem → Option Nat
  | _, [] => none
  | n, i :: is => if 40 < n ∨ ¬ itemOk i then some n else offendingItem (n + 1) is

/-- An item joins in ascending code order, replacing the item of its code. -/
def putItem (i : PriceItem) : List PriceItem → List PriceItem
  | [] => [i]
  | j :: js =>
    if i.code < j.code then i :: j :: js
    else if i.code = j.code then i :: js
    else j :: putItem i js

def putItems (staged items : List PriceItem) : List PriceItem := items.foldl (fun l i => putItem i l) staged

/-- How many items of a request replaced staged items: those whose code was staged before it. -/
def replacedCount (staged items : List PriceItem) : Nat :=
  (items.filter fun i => staged.any fun j => decide (j.code = i.code)).length

def TariffUnit.takeItems (t : TariffUnit) (items : List PriceItem) : TariffUnit × HostReply :=
  if items = [] ∨ offendingItem 1 items ≠ none then (t, .badItem (offendingItem 1 items))
  else
    match t.staging with
    | .filling set =>
      let merged := putItems set.items items
      if Config.priceListSize < merged.length then (t, .stagedFull set.items.length)
      else
        ({ t with staging := .filling { set with items := merged } },
          .itemsTaken (replacedCount set.items items) merged.length)
    | other => (t, .wrongStaging other.name)

/-! ### The other staging requests -/

/-- R137. -/
def TariffUnit.begin (t : TariffUnit) : TariffUnit × HostReply :=
  ({ t with staging := .filling ⟨[], t.active.groups⟩ },
    .stagingBegun t.staging.name t.staging.items.length)

/-- R139: each figure clamped to its maximum. -/
def GroupFigures.clamped (f : GroupFigures) : GroupFigures where
  subsidy := f.subsidy.map (min · 10000)
  allowance := f.allowance.map (min · 5000)
  dailyCap := min f.dailyCap 100000
  overdraft := min f.overdraft 5000

/-- R139. Its WRONG_STATE carries no field, since the rule names none (log entry 25). -/
def TariffUnit.takeGroup (t : TariffUnit) (g : Nat) (f : GroupFigures) : TariffUnit × HostReply :=
  if 7 < g then (t, .badRequest)
  else
    match t.staging with
    | .filling set =>
      ({ t with staging := .filling { set with groups := set.groups.set (Fin.ofNat 8 g) f.clamped } },
        .groupTaken f.clamped)
    | _ => (t, .notFilling)

/-- R140. Its WRONG_STATE carries no field (log entry 25). -/
def TariffUnit.finish (t : TariffUnit) (expected : Nat) : TariffUnit × HostReply :=
  match t.staging with
  | .filling set =>
    if expected = set.items.length then ({ t with staging := .ready set }, .stagingReady expected)
    else (t, .countMismatch set.items.length)
  | _ => (t, .notFilling)

/-- R143. -/
def TariffUnit.list (t : TariffUnit) (which : TariffSetName) (position : Nat) :
    TariffUnit × HostReply :=
  if 1023 < position then (t, .badRequest)
  else
    let set := match which with
      | .active => some t.active
      | .staged => t.staging.set?
    let items := (set.map (·.items)).getD []
    (t, .tariffPage t.staging.name t.generation items.length ((items.drop position).take 40)
      (set.map (·.groups)))

/-! ### The swap (R141) -/

/-- The generation after one: from 65535 it goes to 1, and from 0 to 1. -/
def nextGeneration (g : Nat) : Nat := if 65535 ≤ g then 1 else g + 1

/-- The swap of a READY set with its TARIFF_SWAPPED report; nothing in another state. -/
def State.swap (s : State) (cause : SwapCause) : State :=
  match s.tariff.staging with
  | .ready set =>
    { s with tariff := { s.tariff with
        active := set, staging := .empty, generation := nextGeneration s.tariff.generation } }.queueReport
      (.tariffSwapped s.tariff.generation (nextGeneration s.tariff.generation) set.items.length cause
        s.time)
  | _ => s

/-! ### The commands -/

/-- The Tariff Unit takes the request at the head of its inbox, whole. -/
def State.tariffTakes (s : State) (h : Handed) (rest : List Handed)
    (f : TariffUnit → TariffUnit × HostReply) : State :=
  let out := f { s.tariff with inbox := rest }
  { s with tariff := out.1 }.reply h out.2

/-- TARIFF_BEGIN (R137). -/
def execTariffBegin (s : State) : Result :=
  whenRunning s <|
    match s.tariff.inbox with
    | ⟨tag, .tariffBegin⟩ :: rest => s.tariffTakes ⟨tag, .tariffBegin⟩ rest TariffUnit.begin
    | _ => s

/-- TARIFF_ITEMS (R138). -/
def execTariffItems (s : State) : Result :=
  whenRunning s <|
    match s.tariff.inbox with
    | ⟨tag, .tariffItems items⟩ :: rest =>
      s.tariffTakes ⟨tag, .tariffItems items⟩ rest fun t => t.takeItems items
    | _ => s

/-- TARIFF_GROUP (R139). -/
def execTariffGroup (s : State) : Result :=
  whenRunning s <|
    match s.tariff.inbox with
    | ⟨tag, .tariffGroup g f⟩ :: rest =>
      s.tariffTakes ⟨tag, .tariffGroup g f⟩ rest fun t => t.takeGroup g f
    | _ => s

/-- TARIFF_END (R140). -/
def execTariffEnd (s : State) : Result :=
  whenRunning s <|
    match s.tariff.inbox with
    | ⟨tag, .tariffEnd n⟩ :: rest => s.tariffTakes ⟨tag, .tariffEnd n⟩ rest fun t => t.finish n
    | _ => s

/-- TARIFF_SWAP_NOW (R141). -/
def execTariffSwapNow (s : State) : Result :=
  whenRunning s <|
    match s.tariff.inbox with
    | ⟨tag, .tariffSwapNow⟩ :: rest =>
      let s := { s with tariff := { s.tariff with inbox := rest } }
      match s.tariff.staging with
      | .ready _ =>
        (s.swap .host).reply ⟨tag, .tariffSwapNow⟩ (.swapped (nextGeneration s.tariff.generation))
      | other => s.reply ⟨tag, .tariffSwapNow⟩ (.notReady other.name)
    | _ => s

/-- TARIFF_LIST (R143). -/
def execTariffList (s : State) : Result :=
  whenRunning s <|
    match s.tariff.inbox with
    | ⟨tag, .tariffList which p⟩ :: rest =>
      s.tariffTakes ⟨tag, .tariffList which p⟩ rest fun t => t.list which p
    | _ => s

/-- TARIFF_BOUNDARY_SWAP (R134, R141): the Tariff Unit takes the oldest boundary event it was handed;
that of a warm start before anything else is taken (12 R196). -/
def execTariffBoundarySwap (s : State) : Result :=
  whenStarted s <|
    match s.tariff.boundary with
    | _ :: rest => { s with tariff := { s.tariff with boundary := rest } }.swap .boundary
    | [] => s

end Sys2Proof.Machine
end

