-- ==== Sys2Proof/Machine/Hall.lean ====
section
/-! DEFINITION. Chapter 12, section 12.3 and R194: the hall mode, STATUS, and the two requests that
close the hall for a start. -/

namespace Sys2Proof.Machine

open Sys2Proof

/-! ### STATUS (R193) -/

def LaneControl.status (c : LaneControl) : LaneStatus where
  mode := c.mode
  lineStuck := c.lineStuck
  stations := c.stations.map fun r => (r.state, r.role)

def ridingCount (credits : List CreditOrder) : Nat :=
  (credits.filter fun o => decide (o.state ≠ .pending)).length

/-- What STATUS gathers (R193). -/
def State.statusData (s : State) : StatusData where
  mode := s.hall.mode
  hallId := s.hall.hallId
  power := s.hall.power
  clockSet := s.clock.isSet
  day := s.clock.day
  minute := s.clock.minute
  stamp := s.clock.stamp
  kind := s.clock.kind
  generation := s.tariff.generation
  staging := s.tariff.staging.name
  activeItems := s.tariff.active.items.length
  stagedItems := s.tariff.staging.items.length
  queueHigh := s.sale.highCount
  queueNormal := s.sale.normalCount
  openContexts := s.sale.contexts.length
  doubts := s.sale.doubts.length
  cardRecords := s.sale.memory.length
  orders := s.sale.credits.length
  ridingOrders := ridingCount s.sale.credits
  stopCount := s.decoder.stop.length
  rangeCount := s.decoder.rangeCount
  recordsHeld := s.totals.journal.length
  oldest := s.totals.oldest
  newest := s.totals.newest
  free := s.totals.free
  highFired := s.totals.high
  laneA := s.laneA.status
  laneB := s.laneB.status
  outstandingTags := s.office.tags.map (·.tag)
  reports := s.office.reports.length
  overflow := s.office.overflow

/-! ### Modes (R192) -/

def State.setMode (s : State) (m : HallMode) : State := { s with hall := { s.hall with mode := m } }

/-- SET_HALL's row; an id above 63 is refused in any mode. -/
def State.setHall (s : State) (h : Handed) (id : Nat) : State :=
  if 63 < id then s.reply h .badRequest
  else if s.hall.mode ≠ .setup then s.reply h (.wrongHallMode s.hall.mode)
  else { s with hall := { s.hall with hallId := some id } }.reply h (.hallSet s.hall.hallId)

/-- The conditions an OPEN_HALL in SETUP finds failed. -/
def State.openFailures (s : State) : OpenFailures where
  hallId := s.hall.hallId.isNone
  clock := !s.clock.isSet
  tariff := s.tariff.generation == 0

/-- A refused OPEN_HALL carries the mode and names each condition that failed; outside SETUP the mode
itself is what refuses, and the conditions that fail are named with it all the same. -/
def State.openHall (s : State) (h : Handed) : State :=
  let f := s.openFailures
  if s.hall.mode = .setup ∧ f = ⟨false, false, false⟩ then (s.setMode .serving).reply h .hallMoved
  else s.reply h (.openRefused s.hall.mode f)

def State.suspendHall (s : State) (h : Handed) : State :=
  if s.hall.mode = .serving then (s.setMode .suspended).reply h .hallMoved
  else s.reply h (.wrongHallMode s.hall.mode)

def State.resumeHall (s : State) (h : Handed) : State :=
  if s.hall.mode = .suspended then (s.setMode .serving).reply h .hallMoved
  else s.reply h (.wrongHallMode s.hall.mode)

/-! ### SOFT_RESET and CLEAR_ALL (R194) -/

def State.setClosing (s : State) (c : ClosingStart) : State :=
  { s with office := { s.office with closing := some c } }

/-- Whether a host request other than the one with this tag is outstanding. -/
def OfficeLink.othersOutstanding (o : OfficeLink) (tag : Byte) : Bool :=
  o.tags.any fun t => decide (t.tag ≠ tag)

/-- The three refusals in order, then the closing mark. -/
def State.clearAll (s : State) (h : Handed) (id : Option Nat) : State :=
  if s.hall.mode = .serving then s.reply h (.wrongHallMode .serving)
  else if id ≠ s.hall.hallId then s.reply h (.hallIdDiffers s.hall.hallId)
  else if s.office.othersOutstanding h.tag then s.reply h .othersOutstanding
  else (s.setClosing .clearAll).reply h (.clearAllTaken s.hall.hallId)

/-! ### The commands -/

def State.hallTaken (s : State) (rest : List Handed) : State :=
  { s with hall := { s.hall with inbox := rest } }

/-- SET_HALL (R192). -/
def execSetHall (s : State) : Result :=
  whenRunning s <|
    match s.hall.inbox with
    | ⟨tag, .setHall id⟩ :: rest => (s.hallTaken rest).setHall ⟨tag, .setHall id⟩ id
    | _ => s

/-- OPEN_HALL (R192). -/
def execOpenHall (s : State) : Result :=
  whenRunning s <|
    match s.hall.inbox with
    | ⟨tag, .openHall⟩ :: rest => (s.hallTaken rest).openHall ⟨tag, .openHall⟩
    | _ => s

/-- SUSPEND (R192). -/
def execSuspend (s : State) : Result :=
  whenRunning s <|
    match s.hall.inbox with
    | ⟨tag, .suspend⟩ :: rest => (s.hallTaken rest).suspendHall ⟨tag, .suspend⟩
    | _ => s

/-- RESUME (R192). -/
def execResume (s : State) : Result :=
  whenRunning s <|
    match s.hall.inbox with
    | ⟨tag, .resume⟩ :: rest => (s.hallTaken rest).resumeHall ⟨tag, .resume⟩
    | _ => s

/-- STATUS (R193). -/
def execStatus (s : State) : Result :=
  whenRunning s <|
    match s.hall.inbox with
    | ⟨tag, .status⟩ :: rest => (s.hallTaken rest).reply ⟨tag, .status⟩ (.status s.statusData)
    | _ => s

/-- SOFT_RESET (R194). -/
def execSoftReset (s : State) : Result :=
  whenRunning s <|
    match s.hall.inbox with
    | ⟨tag, .softReset⟩ :: rest =>
      ((s.hallTaken rest).setClosing .softReset).reply ⟨tag, .softReset⟩ .softResetTaken
    | _ => s

/-- CLEAR_ALL (R194). -/
def execClearAll (s : State) : Result :=
  whenRunning s <|
    match s.hall.inbox with
    | ⟨tag, .clearAll id⟩ :: rest => (s.hallTaken rest).clearAll ⟨tag, .clearAll id⟩ id
    | _ => s

end Sys2Proof.Machine
end

