-- ==== Sys2Proof/Machine/Journal.lean ====
section
/-! DEFINITION. Chapter 11: draining the journal, reading and closing the totals, and the capture of
the period counters. Appending and counting (R178, R183) stand in Machine/Ops.lean. -/

namespace Sys2Proof.Machine

open Sys2Proof

/-! ### Draining (R180, R181, R182) -/

/-- The fetch reply (R180). -/
def JournalTotals.fetchReply (j : JournalTotals) : HostReply :=
  .journalPage j.journal.length j.oldest j.newest j.free (j.journal.take 8)

/-- R182, the rows of a release: FIRED becomes ARMED where the count left is below 1,536. -/
def JournalTotals.rearmed (j : JournalTotals) : JournalTotals :=
  { j with high := j.high && decide (Config.journalLowMark ≤ j.journal.length) }

/-- Whether `n` lies between the oldest and the newest number held (R181). -/
def JournalTotals.holds (j : JournalTotals) (n : Nat) : Bool :=
  match j.oldest, j.newest with
  | some old, some new => decide (old ≤ n ∧ n ≤ new)
  | _, _ => false

/-- R181: every record numbered up to `n` is removed, then the mark is tested. -/
def JournalTotals.release (j : JournalTotals) (n : Nat) : JournalTotals × HostReply :=
  if j.holds n then
    let kept := j.journal.filter fun r => decide (n < r.number)
    let j' := { j with journal := kept }.rearmed
    (j', .journalReleased (j.journal.length - kept.length) j'.oldest j'.free)
  else (j, .badRequest)

/-! ### The totals (R184 to R186) -/

/-- The reply of TOTALS_READ for a station (R185). -/
def State.totalsReply (s : State) (st : StationId) : HostReply :=
  .totals (stationGet s.totals.period st) (stationGet s.totals.lastPeriod st)
    (stationGet s.totals.daily st) (stationGet s.totals.closedDay st) s.totals.lastStamp s.clock.stamp
    s.totals.closedTime s.totals.lastClose

/-- The reply of DAY_CLOSE (R186 step 2). -/
def State.dayCloseReply (s : State) : HostReply :=
  .dayClosed s.totals.daily (hallSums s.totals.daily) s.sale.doubts.length s.totals.lastClose s.time

/-- R186, steps 1 and 3. -/
def JournalTotals.closeDay (j : JournalTotals) (now : Time) : JournalTotals :=
  { j with
    closedDay := j.daily
    closedTime := some now
    daily := Sixteen.fill .zero
    lastClose := some now }

/-- R184: the period counters go to the last-period copies, stamped with the event's former stamp, and
start again from 0. -/
def JournalTotals.capture (j : JournalTotals) (e : BoundaryEvent) : JournalTotals :=
  { j with lastPeriod := j.period, lastStamp := some e.former, period := Sixteen.fill .zero }

/-! ### The commands -/

def State.totalsTaken (s : State) (rest : List Handed) : State :=
  { s with totals := { s.totals with inbox := rest } }

/-- JOURNAL_FETCH (R180). -/
def execJournalFetch (s : State) : Result :=
  whenRunning s <|
    match s.totals.inbox with
    | ⟨tag, .journalFetch⟩ :: rest =>
      (s.totalsTaken rest).reply ⟨tag, .journalFetch⟩ s.totals.fetchReply
    | _ => s

/-- JOURNAL_RELEASE (R181). -/
def execJournalRelease (s : State) : Result :=
  whenRunning s <|
    match s.totals.inbox with
    | ⟨tag, .journalRelease n⟩ :: rest =>
      let out := (s.totalsTaken rest).totals.release n
      { s with totals := out.1 }.reply ⟨tag, .journalRelease n⟩ out.2
    | _ => s

/-- TOTALS_READ (R185). One whose station id names no station is refused at once on the office line (13 R198),
so that arm is reached by no run from reset (log entry 20). -/
def execTotalsRead (s : State) : Result :=
  whenRunning s <|
    match s.totals.inbox with
    | ⟨tag, .totalsRead (some st)⟩ :: rest =>
      (s.totalsTaken rest).reply ⟨tag, .totalsRead (some st)⟩ (s.totalsReply st)
    | ⟨tag, .totalsRead none⟩ :: rest =>
      (s.totalsTaken rest).reply ⟨tag, .totalsRead none⟩ .badRequest
    | _ => s

/-- DAY_CLOSE (R186). -/
def execDayClose (s : State) : Result :=
  whenRunning s <|
    match s.totals.inbox with
    | ⟨tag, .dayClose⟩ :: rest =>
      { s with totals := (s.totalsTaken rest).totals.closeDay s.time }.reply ⟨tag, .dayClose⟩
        s.dayCloseReply
    | _ => s

/-- PERIOD_COUNTER_CAPTURE (R184, 08 R134): the unit takes the oldest boundary event it was handed, and
the Hall Clock queues PERIOD_CHANGED with the hall sums of the copies; for that of a warm start before anything
else is taken (R187, 12 R196). -/
def execPeriodCounterCapture (s : State) : Result :=
  whenStarted s <|
    match s.totals.boundary with
    | e :: rest =>
      let j := { s.totals with boundary := rest }.capture e
      { s with totals := j }.queueReport (.periodChanged e (hallSums j.lastPeriod))
    | [] => s

end Sys2Proof.Machine
end

