-- ==== Sys2Proof/Machine/Lane.lean ====
section
/-! DEFINITION. Chapters 9 and 10: the poll round, the exchange and its outcomes, the admission of
station requests, fault scores, drops and recoveries, and the stuck line. -/

namespace Sys2Proof.Machine

open Sys2Proof

/-! ### The round (09 R151) -/

def addresses : List (Fin 8) := [0, 1, 2, 3, 4, 5, 6, 7]

/-- Polled in the round. -/
def StationState.served : StationState → Bool
  | .good | .doubtful | .leaving => true
  | _ => false

/-- In the roll-call set. -/
def StationState.called : StationState → Bool
  | .absent | .pending | .dropped => true
  | _ => false

/-- The first served address at or above `n`. -/
def LaneControl.servedFrom (c : LaneControl) (n : Nat) : Option (Fin 8) :=
  addresses.find? fun a => decide (n ≤ a.val) && (c.stations.get a).state.served

/-- The first address of the roll-call set above the pointer, wrapping from 8 to 1. -/
def LaneControl.nextCalled (c : LaneControl) : Option (Fin 8) :=
  (addresses.find? fun a => decide (c.rollPointer.val < a.val) && (c.stations.get a).state.called).or
    (addresses.find? fun a => (c.stations.get a).state.called)

/-- What the lane is to send next: the next served address of the walk, else the roll-call slot, else,
with an empty set, the first poll of the next round; nothing where every station is HELD. -/
def LaneControl.nextPoll (c : LaneControl) : Option (Fin 8 × PollKind) :=
  match c.position.bind fun p => c.servedFrom p.val with
  | some a => some (a, .poll)
  | none =>
    match c.nextCalled with
    | some a => some (a, .rollCall)
    | none => (c.servedFrom 0).map fun a => (a, .poll)

/-- The round position after a poll: past the address, or END. -/
def positionAfter (a : Fin 8) : PollKind → Option (Fin 8)
  | .poll => if h : a.val < 7 then some ⟨a.val + 1, by omega⟩ else none
  | .rollCall => none

/-- The fields of a poll to a station (09 R152). -/
def StationRecord.poll (r : StationRecord) (a : Fin 8) (k : PollKind) : Poll where
  addr := a
  kind := k
  state := r.state
  reply := r.slot.map fun x => (x.request, x.reply)
  busy := r.busy

/-- The record once a poll has been sent: the reply's mark set, the busy notice emptied (R152, R155). -/
def StationRecord.polled (r : StationRecord) : StationRecord :=
  { r with slot := r.slot.map (fun x => { x with sent := true }), busy := none }

/-- The sale whose WRITE_ORDER a poll carries for the first time (R155). -/
def StationRecord.firstDelivery (r : StationRecord) : Option Nat :=
  match r.slot with
  | some ⟨_, .writeOrder o, false⟩ => some o.sale
  | _ => none

def State.handDelivery (s : State) (st : StationId) : Option Nat → State
  | none => s
  | some n => { s with sale := { s.sale with deliveries := s.sale.deliveries ++ [⟨st, n⟩] } }

/-- The lane sends a poll, starting an exchange; a WRITE_ORDER carried for the first time gives its
delivery event (04 R73, R155). -/
def State.sendTo (s : State) (l : Lane) (a : Fin 8) (k : PollKind) : State :=
  let c := s.lane l
  let r := c.stations.get a
  (s.setLane l
    { c.setStation a r.polled with
      exchange := some ⟨r.poll a k, []⟩
      position := positionAfter a k
      rollPointer := match k with | .poll => c.rollPointer | .rollCall => a
      waiting := none }).handDelivery ⟨l, a⟩ r.firstDelivery

/-- The lane sends what it is to send; with nothing to send it waits at the start of a round (R151). -/
def State.sendNext (s : State) (l : Lane) : State :=
  match (s.lane l).nextPoll with
  | some (a, k) => s.sendTo l a k
  | none => s.setLane l { s.lane l with position := some 0, waiting := none }

/-! ### Station requests (09 R153, R154) -/

/-- The confirmation of R153. -/
def StationRecord.confirm (r : StationRecord) (seen : Option Byte) : StationRecord :=
  match r.slot with
  | some x => if x.sent ∧ seen = some x.request then { r with slot := none, outstanding := none } else r
  | none => r

/-- A request enters the work queue at the end of the order (04 R58). -/
def State.enqueue (s : State) (w : Work) : State :=
  { s with sale := { s.sale with queue := s.sale.queue ++ [w] } }

/-- R154: repeat, busy, pending, admitted. -/
def State.admitRequest (s : State) (st : StationId) (n : Byte) (q : StationRequest) : State :=
  let r := s.station st
  if r.lastRequest = some n then s
  else if r.outstanding ≠ none then s.setStation st { r with busy := some n }
  else if r.state = .pending then
    s.setStation st
      { r with
        lastRequest := some n, outstanding := some ⟨n, false⟩, slot := some ⟨n, .notServing, false⟩ }
  else
    (s.setStation st { r with lastRequest := some n, outstanding := some ⟨n, false⟩ }).enqueue
      (.station st n q)

/-! ### Joining and leaving (09 R156, R158) -/

/-- A JOIN answer to a roll-call at an ABSENT address. -/
def State.join (s : State) (st : StationId) : State :=
  (s.setStation st { s.station st with state := .pending, silent := 0 }).queueReport
    (.stationJoined st)

/-- The record of a PENDING station that goes. By silence its outstanding request is kept and orphaned
(R156). By LEAVE it takes the values of R146 (R158), which name only a request queued before the station
became ABSENT, orphaned then: one the lane answered itself was never queued, and is dropped (log entry
12). -/
def StationRecord.departed (r : StationRecord) : GoneCause → StationRecord
  | .silence => r.madeAbsent
  | .leave => { r.madeAbsent with outstanding := r.outstanding.filter (·.orphaned) }

/-- A PENDING station goes, by silence or by LEAVE. -/
def State.stationGone (s : State) (st : StationId) (cause : GoneCause) : State :=
  (s.setStation st ((s.station st).departed cause)).queueReport (.stationGone st cause)

/-- A LEAVE answer of a GOOD or DOUBTFUL station. -/
def State.leaveAnswer (s : State) (st : StationId) : State :=
  let r := s.station st
  if r.contextFlag = none then
    (s.setStation st { r with state := .leaving }).queueReport (.stationLeaving st)
  else s.setStation st { r with leaveRequested := true }

/-- The answer kind by the station's state (R153). -/
def State.takeAnswer (s : State) (st : StationId) (k : PollKind) (a : Answer) : State :=
  match (s.station st).state with
  | .absent =>
    match k, a.kind with
    | .rollCall, .join => s.join st
    | _, _ => s
  | .pending =>
    let s := s.setStation st { s.station st with silent := 0 }
    match a.kind with
    | .request q => s.admitRequest st a.number q
    | .leave => s.stationGone st .leave
    | _ => s
  | .good | .doubtful =>
    match a.kind with
    | .request q => s.admitRequest st a.number q
    | .leave => s.leaveAnswer st
    | _ => s
  | .leaving =>
    match a.kind with
    | .request q => s.admitRequest st a.number q
    | _ => s
  | .dropped | .held => s

/-- A valid answer is read in two parts: the confirmation, then the answer kind (R153). -/
def State.readValid (s : State) (st : StationId) (k : PollKind) (a : Answer) : State :=
  (s.setStation st ((s.station st).confirm a.lastSeen)).takeAnswer st k a

/-! ### Faults (10 R165 to R170, R173) -/

def FailureSet.add (f : FailureSet) : FailureKind → FailureSet
  | .noAnswer => { f with noAnswer := true }
  | .badCheck => { f with badCheck := true }
  | .badForm => { f with badForm := true }
  | .wrongAddress => { f with wrongAddress := true }
  | .waitLimit => { f with waitLimit := true }

/-- A failure is taken into the error record by the lane's mode (R173). -/
def recordFailure (m : ErrorMode) (f : FailureSet) (k : FailureKind) : FailureSet :=
  match m with
  | .all => f.add k
  | .first => if f = .empty then f.add k else f

/-- The record changes state, and a STATION_STATE report of the change is queued (R167). -/
def State.stateChange (s : State) (st : StationId) (former : StationState) (r : StationRecord)
    (cause : StationCause) : State :=
  (s.setStation st r).queueReport
    (.stationState st former r.state cause r.score r.cleanCalls r.errors s.time)

/-- A loss event for a station that holds a context (04 R83). -/
def State.lossIfHolding (s : State) (st : StationId) (cause : LossCause) : State :=
  if (s.station st).contextFlag = none then s else s.handLoss ⟨st, cause⟩

/-- The drop of R168; `r` already carries the failure in its error record. -/
def State.drop (s : State) (st : StationId) (r : StationRecord) : State :=
  let r' := { r with score := 255, cleanCalls := 0, waits := 0, leaveRequested := false }
  match (s.lane st.lane).settings.recovery with
  | .holdAtDrop =>
    (s.stateChange st r.state { r' with state := .held } .holdAtDrop).lossIfHolding st .held
  | _ => (s.stateChange st r.state { r' with state := .dropped } .drop).lossIfHolding st .dropped

/-- A failure of a served station: plus 8, a drop above 255, DOUBTFUL at 96 (R165, R167, R168). -/
def State.failServed (s : State) (st : StationId) (k : FailureKind) : State :=
  let r := s.station st
  let r := { r with waits := 0, errors := recordFailure (s.lane st.lane).settings.errors r.errors k }
  if 255 < r.score + 8 then s.drop st r
  else
    let r' := { r with score := r.score + 8 }
    if r.state = .good ∧ 96 ≤ r'.score then
      s.stateChange st .good { r' with state := .doubtful } .scoreUp
    else s.setStation st r'

/-- Minus 1, GOOD again below 64 (R165, R167); `waits` is the new consecutive-wait count. -/
def State.passServed (s : State) (st : StationId) (waits : Nat) : State :=
  let r := s.station st
  let r' := { r with score := r.score - 1, waits := waits }
  if r.state = .doubtful ∧ r'.score < 64 then
    s.stateChange st .doubtful { r' with state := .good } .scoreDown
  else s.setStation st r'

/-- The scoring of a valid answer, a WAIT counted by R166. -/
def State.scoreValid (s : State) (st : StationId) (a : Answer) : State :=
  if a.kind = .wait then
    if (s.lane st.lane).settings.waitLimit ≤ (s.station st).waits + 1 then s.failServed st .waitLimit
    else s.passServed st ((s.station st).waits + 1)
  else s.passServed st 0

/-- One clean call of a DROPPED station, and what the 32nd brings (R169, R170). -/
def State.cleanCall (s : State) (st : StationId) : State :=
  let r := s.station st
  let n := min (r.cleanCalls + 1) 32
  let r' := { r with cleanCalls := n }
  if n = 32 then
    match (s.lane st.lane).settings.recovery with
    | .auto =>
      s.stateChange st .dropped { r' with state := .good, score := 0, cleanCalls := 0, waits := 0 }
        .recovered
    | .holdAfter =>
      (s.stateChange st .dropped { r' with state := .held } .holdAfter).lossIfHolding st .held
    | _ => s.setStation st r'
  else s.setStation st r'

/-! ### The end of an exchange (10 R163, R164) -/

inductive ExchangeEnd where
  | failure (kind : FailureKind)
  | valid (answer : Answer)
  deriving DecidableEq, Repr

/-- The exchange is over; the round goes on, from address 1 after a roll-call slot (09 R151). -/
def State.clearExchange (s : State) (l : Lane) (x : Exchange) : State :=
  let c := s.lane l
  s.setLane l
    { c with
      exchange := none
      position := match x.poll.kind with | .poll => c.position | .rollCall => some 0 }

/-- A roll-call that ends in no valid answer at a PENDING address (09 R156). -/
def State.silentCall (s : State) (st : StationId) : State :=
  let r := { s.station st with silent := (s.station st).silent + 1 }
  if 8 ≤ r.silent then (s.setStation st r).stationGone st .silence else s.setStation st r

/-- The outcome acts on the station by the state it holds when the exchange ends (R164). -/
def State.endExchange (s : State) (l : Lane) (x : Exchange) (e : ExchangeEnd) : State :=
  let s := s.clearExchange l x
  let st : StationId := ⟨l, x.poll.addr⟩
  match (s.station st).state, e with
  | .good, .valid a | .doubtful, .valid a | .leaving, .valid a =>
    (s.readValid st x.poll.kind a).scoreValid st a
  | .dropped, .valid a => (s.readValid st x.poll.kind a).cleanCall st
  | .absent, .valid a | .pending, .valid a => s.readValid st x.poll.kind a
  | .good, .failure k | .doubtful, .failure k | .leaving, .failure k => s.failServed st k
  | .dropped, .failure k =>
    let r := s.station st
    s.setStation st
      { r with cleanCalls := 0, errors := recordFailure (s.lane l).settings.errors r.errors k }
  | .pending, .failure _ => s.silentCall st
  | .absent, .failure _ => s
  | .held, _ => s

/-- The outcome of a complete answer frame to a poll of address `a` (R163). -/
def frameOutcome (a : Fin 8) (frame : List Byte) : ExchangeEnd :=
  match readLaneFrame frame with
  | .badCheck => .failure .badCheck
  | .badForm => .failure .badForm
  | .answer x => if x.address.toNat = a.val + 1 then .valid x else .failure .wrongAddress

/-! ### The commands of the line -/

/-- SEND_POLL (R151): the line is idle and the lane sends its next poll. -/
def execSendPoll (l : Lane) (s : State) : Result :=
  whenRunning s <|
    let c := s.lane l
    if c.mode = .running ∧ c.exchange = none ∧ c.waiting = none then s.sendNext l else s

/-- LANE_ANSWER (R153, R163): bytes arrive while an answer is awaited; a complete frame ends the
exchange. -/
def execLaneAnswer (l : Lane) (bytes : List Byte) (s : State) : Result :=
  whenRunning s <|
    match (s.lane l).exchange with
    | none => s
    | some x =>
      let got := collectAnswer x.received bytes
      if got.2 then s.endExchange l x (frameOutcome x.poll.addr got.1)
      else s.setLane l { s.lane l with exchange := some { x with received := got.1 } }

/-- ANSWER_TIMEOUT (R163): no frame begun is NO_ANSWER, a frame begun and not complete is BAD_FORM. -/
def execAnswerTimeout (l : Lane) (s : State) : Result :=
  whenRunning s <|
    match (s.lane l).exchange with
    | none => s
    | some x =>
      s.endExchange l x (.failure (if x.received = [] then .noAnswer else .badForm))

/-- The poll the lane is ready to send: the one it waits with, else its next (R174; what it carries is taken
when it is sent, log entry 13). -/
def LaneControl.readyPoll (c : LaneControl) : Option (Fin 8 × PollKind) := c.waiting.or c.nextPoll

/-- LINE_STUCK (R174, R175): the line has been held active for 10 ms while the lane is to send a poll. The
lane waits with that poll; with the indication set already nothing is reported. -/
def execLineStuck (l : Lane) (s : State) : Result :=
  whenRunning s <|
    let c := s.lane l
    if c.mode = .running ∧ c.exchange = none then
      match c.readyPoll with
      | none => s
      | some p =>
        let t := s.setLane l { c with lineStuck := true, waiting := some p }
        if c.lineStuck then t else t.queueReport (.lineStuck l s.time)
    else s

/-- LINE_IDLE_RESUME (R174): the line is seen idle while the lane waits for it, and the lane sends the poll
it was ready to send. -/
def execLineIdleResume (l : Lane) (s : State) : Result :=
  whenRunning s <|
    let c := s.lane l
    match c.waiting with
    | some (a, k) => if c.mode = .running ∧ c.exchange = none then s.sendTo l a k else s
    | none => s

/-! ### The host's requests (09 R147 to R150, R157, R159, R161; 10 R172, R173, R175) -/

def State.laneTaken (s : State) (l : Lane) (rest : List Handed) : State :=
  s.setLane l { s.lane l with inbox := rest }

/-- The addresses whose station is not ABSENT. -/
def LaneControl.present (c : LaneControl) : List (Fin 8) :=
  addresses.filter fun a => decide ((c.stations.get a).state ≠ .absent)

/-- Of those, the addresses whose context flag is set, in ascending address: the spec gives the loss events
of several stations no order, and this one is the model's choice (log entry 22). -/
def LaneControl.holding (c : LaneControl) : List (Fin 8) :=
  c.present.filter fun a => (c.stations.get a).contextFlag.isSome

/-- R149: the lane enters OFF as one change. Its loss events are handed in ascending address (log entry
22). -/
def State.laneEntersOff (s : State) (l : Lane) : State :=
  let c := s.lane l
  let s := s.setLane l
    { c with
      mode := .off
      exchange := none
      position := some 0
      waiting := none
      stations := c.stations.map fun r => if r.state = .absent then r else r.madeAbsent }
  { s with sale := { s.sale with
      losses := s.sale.losses ++ c.holding.map fun a => ⟨⟨l, a⟩, .off⟩ } }

/-- LANE_SET's table (R147), with R149 and R150. The refusal of PAUSED in OFF carries no field, since R147
names none (log entry 25). -/
def State.laneSet (s : State) (h : Handed) (l : Lane) (m : LaneMode) : State :=
  let c := s.lane l
  match c.mode, m with
  | .off, .off | .paused, .paused | .running, .running => s.reply h (.laneModes m m)
  | .off, .paused => s.reply h .cannotPause
  | .paused, .off | .running, .off =>
    (s.laneEntersOff l).reply h (.laneOff c.mode c.present.length c.holding.length)
  | .running, .paused =>
    (s.setLane l { c with mode := .paused, waiting := none }).reply h (.laneModes .running .paused)
  | .off, .running | .paused, .running =>
    (s.setLane l { c with mode := .running, position := some 0, waiting := none }).reply h
      (.laneModes c.mode .running)

/-- LANE_SET (R147). -/
def execLaneSet (l : Lane) (s : State) : Result :=
  whenRunning s <|
    match (s.lane l).inbox with
    | ⟨tag, .laneSet ref m⟩ :: rest => (s.laneTaken l rest).laneSet ⟨tag, .laneSet ref m⟩ l m
    | _ => s

/-- R148: a value below its range is taken as the lowest, one above as the highest. -/
def clampTo (lo hi n : Nat) : Nat := max lo (min hi n)

/-- LANE_SETTINGS (R148). -/
def execLaneSettings (l : Lane) (s : State) : Result :=
  whenRunning s <|
    match (s.lane l).inbox with
    | ⟨tag, .laneSettings ref recovery errors timeout wait⟩ :: rest =>
      let h : Handed := ⟨tag, .laneSettings ref recovery errors timeout wait⟩
      let s := s.laneTaken l rest
      let c := s.lane l
      if c.mode = .off then
        let taken : LaneSettings := ⟨recovery, errors, clampTo 1 15 timeout, clampTo 1 1000 wait⟩
        (s.setLane l { c with settings := taken }).reply h (.settings taken c.settings)
      else s.reply h (.wrongLaneMode c.mode)
    | _ => s

/-- ENROLL (R157). -/
def execEnroll (l : Lane) (s : State) : Result :=
  whenRunning s <|
    match (s.lane l).inbox with
    | ⟨tag, .enroll (some st) role⟩ :: rest =>
      let h : Handed := ⟨tag, .enroll (some st) role⟩
      let s := s.laneTaken l rest
      let r := s.station ⟨l, st.addr⟩
      if r.state = .pending then
        (s.setStation ⟨l, st.addr⟩
          { r with
            state := .good, role := some role, score := 0, cleanCalls := 0, waits := 0
            errors := .empty, silent := 0 }).reply h (.enrolled ⟨l, st.addr⟩ role)
      else s.reply h (.wrongStationState r.state)
    | ⟨tag, .enroll none role⟩ :: rest => (s.laneTaken l rest).reply ⟨tag, .enroll none role⟩ .badRequest
    | _ => s

/-- RELEASE (R159). -/
def execRelease (l : Lane) (s : State) : Result :=
  whenRunning s <|
    match (s.lane l).inbox with
    | ⟨tag, .release (some st)⟩ :: rest =>
      let h : Handed := ⟨tag, .release (some st)⟩
      let s := s.laneTaken l rest
      let r := s.station ⟨l, st.addr⟩
      match r.state with
      | .absent | .good | .doubtful => s.reply h (.wrongStationState r.state)
      | _ =>
        match r.contextFlag with
        | some n => s.reply h (.stationHolds n)
        | none => (s.setStation ⟨l, st.addr⟩ r.madeAbsent).reply h (.released r.state)
    | ⟨tag, .release none⟩ :: rest => (s.laneTaken l rest).reply ⟨tag, .release none⟩ .badRequest
    | _ => s

/-- RESTORE (10 R172). -/
def execRestore (l : Lane) (s : State) : Result :=
  whenRunning s <|
    match (s.lane l).inbox with
    | ⟨tag, .restore (some st)⟩ :: rest =>
      let h : Handed := ⟨tag, .restore (some st)⟩
      let s := s.laneTaken l rest
      let r := s.station ⟨l, st.addr⟩
      if r.state = .dropped ∨ r.state = .held then
        (s.setStation ⟨l, st.addr⟩ { r with state := .good, score := 0, cleanCalls := 0, waits := 0 }).reply
          h (.restored r.state r.cleanCalls)
      else s.reply h (.wrongStationState r.state)
    | ⟨tag, .restore none⟩ :: rest => (s.laneTaken l rest).reply ⟨tag, .restore none⟩ .badRequest
    | _ => s

/-- CLEAR_STATION_ERRORS (10 R173). -/
def execClearStationErrors (l : Lane) (s : State) : Result :=
  whenRunning s <|
    match (s.lane l).inbox with
    | ⟨tag, .clearStationErrors (some st)⟩ :: rest =>
      let h : Handed := ⟨tag, .clearStationErrors (some st)⟩
      let s := s.laneTaken l rest
      let r := s.station ⟨l, st.addr⟩
      (s.setStation ⟨l, st.addr⟩ { r with errors := .empty }).reply h (.formerErrors r.errors)
    | ⟨tag, .clearStationErrors none⟩ :: rest =>
      (s.laneTaken l rest).reply ⟨tag, .clearStationErrors none⟩ .badRequest
    | _ => s

/-- CLEAR_LINE_STUCK (10 R175). -/
def execClearLineStuck (l : Lane) (s : State) : Result :=
  whenRunning s <|
    match (s.lane l).inbox with
    | ⟨tag, .clearLineStuck ref⟩ :: rest =>
      let s := s.laneTaken l rest
      let c := s.lane l
      (s.setLane l { c with lineStuck := false }).reply ⟨tag, .clearLineStuck ref⟩
        (.formerStuck c.lineStuck)
    | _ => s

/-- What LANE_READ gives of a station (R161). -/
def StationRecord.reading (r : StationRecord) : StationReading where
  state := r.state
  role := r.role
  score := r.score
  cleanCalls := r.cleanCalls
  waits := r.waits
  errors := r.errors
  slot := r.slot.map fun x => (x.request, x.reply.word, x.sent)
  lastRequest := r.lastRequest
  outstanding := r.outstanding
  contextFlag := r.contextFlag
  leaveRequested := r.leaveRequested
  silent := r.silent

/-- LANE_READ (R161): it reads the lane between two of its exchanges, so it waits for one in flight. -/
def execLaneRead (l : Lane) (s : State) : Result :=
  whenRunning s <|
    match (s.lane l).exchange, (s.lane l).inbox with
    | none, ⟨tag, .laneRead ref⟩ :: rest =>
      let s := s.laneTaken l rest
      let c := s.lane l
      s.reply ⟨tag, .laneRead ref⟩
        (.lane c.mode c.settings c.rollPointer c.lineStuck (c.stations.map StationRecord.reading))
    | _, _ => s

/-! ### The warm start of a lane (09 R162) -/

/-- A station record after a warm start. -/
def StationRecord.warmed (r : StationRecord) : StationRecord :=
  let r := { r with
    slot := none, busy := none, outstanding := none, lastRequest := none, leaveRequested := false }
  match r.state with
  | .good | .doubtful | .dropped | .held =>
    { r with state := .good, score := 0, cleanCalls := 0, waits := 0 }
  | .leaving => { r with score := 0, cleanCalls := 0, waits := 0 }
  | .pending => { r with silent := 0 }
  | .absent => r

/-- The lane after a warm start. An exchange in flight is abandoned whatever the start's cause: R162 says so
of one in flight at the loss of main supply alone, and for the start of a SOFT_RESET it is the model's
choice (log entry 26). -/
def LaneControl.warmed (c : LaneControl) : LaneControl :=
  { c with
    exchange := none
    position := some 0
    waiting := none
    stations := c.stations.map StationRecord.warmed
    inbox := [] }

end Sys2Proof.Machine
end

