-- ==== Sys2Proof/Machine/Office.lean ====
section
/-! DEFINITION. Chapter 12, sections 12.1 and 12.2: the office receiver, the admission of requests, and
the transmitter. -/

namespace Sys2Proof.Machine

open Sys2Proof

/-! ### The owners of the requests (R189) -/

/-- The Lane Controller a station reference names. -/
def stationOwner (ref : Option StationId) : Option Owner := ref.map fun st => .lane st.lane

/-- The owning block; none for a request to a Lane Controller whose reference names no lane (test 4). -/
def HostRequest.owner : HostRequest → Option Owner
  | .creditOrder _ _ _ | .cancelCredit _ | .queryCredits _ | .queryCard _ | .doubtDismiss _ _
  | .doubtList _ | .saleList | .writeTimerSet _ => some .saleEngine
  | .stopAdd _ | .stopRemove _ | .stopClear | .stopList _ | .rangeSet _ _ _ _ _ _ | .rangeClear _
  | .rangeDefault _ | .rangeList | .classQuery _ => some .decoder
  | .tariffBegin | .tariffItems _ | .tariffGroup _ _ | .tariffEnd _ | .tariffSwapNow
  | .tariffList _ _ => some .tariff
  | .setClock _ _ | .setPeriods _ | .clockRead => some .clock
  | .laneSet lane _ | .laneSettings lane _ _ _ _ | .clearLineStuck lane | .laneRead lane =>
    lane.map .lane
  | .enroll st _ | .release st | .restore st | .clearStationErrors st => stationOwner st
  | .journalFetch | .journalRelease _ | .totalsRead _ | .dayClose => some .totals
  | .setHall _ | .openHall | .suspend | .resume | .status | .softReset | .clearAll _ => some .hall

/-- The request is handed to its owning block: for the Sale Engine through its work queue (R189). -/
def State.hand (s : State) (o : Owner) (h : Handed) : State :=
  match o with
  | .saleEngine => { s with sale := { s.sale with queue := s.sale.queue ++ [.host h] } }
  | .decoder => { s with decoder := { s.decoder with inbox := s.decoder.inbox ++ [h] } }
  | .tariff => { s with tariff := { s.tariff with inbox := s.tariff.inbox ++ [h] } }
  | .clock => { s with clock := { s.clock with inbox := s.clock.inbox ++ [h] } }
  | .lane l => s.setLane l { s.lane l with inbox := (s.lane l).inbox ++ [h] }
  | .totals => { s with totals := { s.totals with inbox := s.totals.inbox ++ [h] } }
  | .hall => { s with hall := { s.hall with inbox := s.hall.inbox ++ [h] } }

/-! ### Admission (R189) -/

/-- The request and owner a frame gives, where its kind names a request, its body can be read as that
request's fields, every enumerated value in its list, and its reference names a lane (test 4, 13 R198). So a
TOTALS_READ whose station id byte is outside 1 to 16 is refused at once (log entry 20). -/
def readFrame (f : TakenFrame) (reading : Option HostRequest) : Option (HostRequest × Owner) :=
  match readBody f.kind f.body reading with
  | none => none
  | some r => if r.enumerated then r.owner.map fun o => (r, o) else none

/-- The entry that the reply to a SET_PERIODS refused by test 4 names (08 R131). -/
def refusedEntry (f : TakenFrame) (reading : Option HostRequest) : Option Nat :=
  match readBody f.kind f.body reading with
  | some (.setPeriods entries) => offendingPeriod 0 none entries
  | _ => none

/-- What the four tests, in order, make of a frame. -/
inductive Admission where
  | refused (word : OutcomeWord) (entry : Option Nat)
  | admitted (request : HostRequest) (owner : Owner)
  deriving DecidableEq, Repr

def OfficeLink.admission (o : OfficeLink) (f : TakenFrame) (reading : Option HostRequest) :
    Admission :=
  if o.closing ≠ none then .refused .hostBusy none
  else if f.tag ∈ o.tags.map (·.tag) then .refused .tagInUse none
  else if Config.tagTableSize ≤ o.tags.length then .refused .hostBusy none
  else
    match readFrame f reading with
    | none => .refused .badRequest (refusedEntry f reading)
    | some (r, owner) => .admitted r owner

/-- An answer given at once joins the refusal queue; on a full queue the frame is discarded. -/
def OfficeLink.refuse (o : OfficeLink) (f : TakenFrame) (w : OutcomeWord) (entry : Option Nat) :
    OfficeLink :=
  if o.refusals.length < Config.refusalQueueSize then
    { o with refusals := o.refusals ++ [OfficeRefusal.mk f.tag f.kind w entry] }
  else o

/-- A request frame that the receiver takes. -/
def State.takeRequest (s : State) (f : TakenFrame) (reading : Option HostRequest) : State :=
  match s.office.admission f reading with
  | .refused w entry => { s with office := s.office.refuse f w entry }
  | .admitted r owner =>
    { s with office := { s.office with
        tags := s.office.tags ++ [TagEntry.mk f.tag f.kind owner] } }.hand owner ⟨f.tag, r⟩

/-! ### The receiver's commands (R188) -/

def State.setReceiver (s : State) (r : Receiver) : State :=
  { s with office := { s.office with receiver := r } }

/-- OFFICE_FRAME_RECEIVED (R188, R189): bytes arrive; the frame they complete is discarded or taken. -/
def execOfficeFrameReceived (bytes : List Byte) (reading : Option HostRequest) (s : State) : Result :=
  whenRunning s <|
    let got := s.office.receiver.collect bytes
    match got.2.bind takeFrame with
    | none => s.setReceiver got.1
    | some f => (s.setReceiver got.1).takeRequest f reading

/-- OFFICE_BYTE_GAP_TIMEOUT (R188): more than 20 ms between two bytes of a frame discard it. -/
def execOfficeByteGapTimeout (s : State) : Result := whenRunning s (s.setReceiver .hunting)

/-- OFFICE_START_MARKER (R188): in HUNTING a start marker puts the receiver INSIDE a frame. -/
def execOfficeStartMarker (s : State) : Result :=
  whenRunning s <|
    match s.office.receiver with
    | .hunting => s.setReceiver (.inside [])
    | .inside _ => s

/-- FRAME_LENGTH_OVER_LIMIT (R188): the two length bytes after a start marker exceed 1,024, so the frame
is discarded and the hunt goes on from the next byte. -/
def execFrameLengthOverLimit (length : BitVec 16) (s : State) : Result :=
  whenRunning s <|
    match s.office.receiver with
    | .inside [] => if Config.bodyLimit < length.toNat then s.setReceiver .hunting else s
    | _ => s

/-! ### The transmitter (R190, R191) -/

/-- The frame the arbitration picks. A report takes the overflow indication as it stands. -/
def OfficeLink.nextFrame (o : OfficeLink) : Option OutFrame :=
  match o.refusals, o.replies, o.reports with
  | f :: _, [], _ => some (.refusal f)
  | f :: _, r :: _, _ => some (if o.lastWasRefusal then .reply r else .refusal f)
  | [], r :: _, _ => some (.reply r)
  | [], [], p :: _ => some (.report p o.overflow)
  | [], [], [] => none

/-- The frame leaves its queue as its sending begins. -/
def OfficeLink.begin (o : OfficeLink) (f : OutFrame) : OfficeLink :=
  let o := { o with sending := some ⟨f, false⟩ }
  match f with
  | .refusal _ => { o with refusals := o.refusals.tail }
  | .reply _ => { o with replies := o.replies.tail }
  | .report _ _ => { o with reports := o.reports.tail }

/-- FRAME_SEND_START (R190): the line is free and frames are waiting. -/
def execFrameSendStart (s : State) : Result :=
  whenRunning s <|
    match s.office.sending, s.office.nextFrame with
    | none, some f => { s with office := s.office.begin f }
    | _, _ => s

/-- The start a reply sent in full brings, while the closing mark is set (R194). -/
def startAfter (closing : Option ClosingStart) : HostReply → Option DueStart
  | .softResetTaken => if closing = some .softReset then some (.warm .softReset) else none
  | .clearAllTaken _ => if closing = some .clearAll then some (.cold false) else none
  | _ => none

/-- The line is free again; what was sent last is kept for the arbitration. -/
def OfficeLink.lineFree (o : OfficeLink) (wasRefusal : Bool) : OfficeLink :=
  { o with sending := none, lastWasRefusal := wasRefusal }

/-- A frame has been sent in full: a reply frees its tag (R189) and may bring a start (R194); a report
that carried the indication clears it unless a report was dropped meanwhile (R191). -/
def State.sent (s : State) (x : Sending) : State :=
  match x.frame with
  | .refusal _ => { s with office := s.office.lineFree true }
  | .reply r =>
    let o := s.office.lineFree false
    { s with
      office := { o with tags := o.tags.filter fun t => t.tag ≠ r.tag }
      hall := { s.hall with startDue := startAfter s.office.closing r.reply } }
  | .report _ carried =>
    let o := s.office.lineFree false
    { s with office := { o with overflow := o.overflow && !(carried && !x.dropped) } }

/-- FRAME_SENT_IN_FULL (R189, R191, R194). -/
def execFrameSentInFull (s : State) : Result :=
  whenRunning s <|
    match s.office.sending with
    | some x => s.sent x
    | none => s

end Sys2Proof.Machine
end

