-- ==== Sys2Proof/Machine/Power.lean ====
section
/-! DEFINITION. Chapter 12, section 12.4: RETAIN, the RESET line, the backup-failure latch, and the two
starts. -/

namespace Sys2Proof.Machine

open Sys2Proof

/-! ### The part stops (R195) -/

/-- A lane abandons its exchange in flight. -/
def LaneControl.abandon (c : LaneControl) : LaneControl := { c with exchange := none }

/-- The receiver abandons a frame being received, and the transmitter cuts off a frame being sent. -/
def OfficeLink.cutOff (o : OfficeLink) : OfficeLink := { o with receiver := .hunting, sending := none }

def State.stopTraffic (s : State) : State :=
  { s with office := s.office.cutOff, laneA := s.laneA.abandon, laneB := s.laneB.abandon }

/-- MAIN_SUPPLY_LOSS (R195): RUN becomes RETAIN. A time already noted for a held RESET line stays the
time of entry. DESIGN CHOICE (log entry 23): where the line first became active in RETAIN, which ignores
it, and is still held at the return of main supply and at a second loss, the time of the first loss stays
the time of entry. -/
def HallControl.loseSupply (h : HallControl) (now : Time) : HallControl :=
  { h with power := .retain, entryTime := if h.resetHeld then h.entryTime else some now }

def execMainSupplyLoss (s : State) : Result :=
  .next <|
    match s.hall.power with
    | .run => { s.stopTraffic with hall := s.hall.loseSupply s.time }
    | .retain => s

/-- The start the return of main supply calls for: cold where the latch is set, else warm with cause
SUPPLY; a cold start that was already due stays due. -/
def HallControl.startOnReturn (h : HallControl) : DueStart :=
  match h.startDue with
  | some (.cold byLatch) => .cold (byLatch || h.backupLatch)
  | _ => if h.backupLatch then .cold true else .warm .supply

/-- MAIN_SUPPLY_RETURN (R195). The start is performed once the RESET line is released. -/
def execMainSupplyReturn (s : State) : Result :=
  .next <|
    match s.hall.power with
    | .run => s
    | .retain => { s with hall := { s.hall with power := .run, startDue := some s.hall.startOnReturn } }

/-- BACKUP_FAILURE (R195): the backup supply falls below its retention limit. -/
def execBackupFailure (s : State) : Result :=
  .next { s with hall := { s.hall with backupLatch := true } }

/-- The start a release of the RESET line leaves due: RESET_LINE, unless the start a return of main
supply or a CLEAR_ALL called for is still to be performed. -/
def startOnRelease : Option DueStart → DueStart
  | none => .warm .resetLine
  | some (.warm .softReset) => .warm .resetLine
  | some d => d

/-- Whether the line's own start is the one its release brings, so that its time is the one noted. -/
def notesEntry (d : Option DueStart) : Bool := decide (startOnRelease d = .warm .resetLine)

def HallControl.holdLine (h : HallControl) (now : Time) : HallControl :=
  { h with
    resetHeld := true
    entryTime := if notesEntry h.startDue then some now else h.entryTime }

/-- RESET_LINE_ASSERT (R195): in RUN the part stops as on entry into RETAIN; in RETAIN the line is
ignored but for its level. -/
def execResetLineAssert (s : State) : Result :=
  .next <|
    if s.hall.resetHeld then s
    else
      match s.hall.power with
      | .run => { s.stopTraffic with hall := s.hall.holdLine s.time }
      | .retain => { s with hall := { s.hall with resetHeld := true } }

/-- RESET_LINE_RELEASE (R195). -/
def HallControl.releaseLine (h : HallControl) : HallControl :=
  match h.power with
  | .run => { h with resetHeld := false, startDue := some (startOnRelease h.startDue) }
  | .retain => { h with resetHeld := false }

def execResetLineRelease (s : State) : Result :=
  .next <| if s.hall.resetHeld then { s with hall := s.hall.releaseLine } else s

/-! ### The warm start (R196) -/

/-- Step 1. -/
def OfficeLink.warmed (o : OfficeLink) : OfficeLink :=
  { o with
    receiver := .hunting, tags := [], refusals := [], replies := [], closing := none, sending := none }

/-- The requests handed to a block and not yet taken are dropped. -/
def State.dropRequests (s : State) : State :=
  { s with
    hall := { s.hall with inbox := [] }
    decoder := { s.decoder with inbox := [] }
    tariff := { s.tariff with inbox := [] }
    clock := { s.clock with inbox := [] }
    totals := { s.totals with inbox := [] } }

/-- Step 2: the lanes, then the engine. A report of this step that finds the queue full is dropped and sets
the overflow indication by R191, though step 3 empties the queue all the same: the spec says that the start
keeps the indication and not whether its own reports set it (DESIGN CHOICE, log entry 28). -/
def State.warmSales (s : State) : State :=
  { s with laneA := s.laneA.warmed, laneB := s.laneB.warmed }.warmEngine

/-- The time of entry the WARM_START report carries: NONE for SOFT_RESET. -/
def HallControl.entryFor (h : HallControl) : WarmCause → Option Time
  | .softReset => none
  | _ => h.entryTime

/-- Step 3: the report queue is emptied, and WARM_START is its first report. -/
def State.warmReport (s : State) (cause : WarmCause) (voided moved : Nat) : State :=
  { s with office := { s.office with reports := [] } }.queueReport
    (.warmStart cause (s.hall.entryFor cause) s.time s.hall.mode voided moved)

/-- The warm start, steps 1 to 4. Step 4's boundary event is handed to the Tariff Unit and the Journal and
Totals unit, which take it by commands of their own, TARIFF_BOUNDARY_SWAP and PERIOD_COUNTER_CAPTURE. Until
both have, the part is not `running`: it takes no frame, polls nothing and sends nothing (log entry 30). -/
def State.warmStart (s : State) (cause : WarmCause) : State :=
  let voided := s.sale.unsent.length
  let moved := s.sale.ordered.length
  let s := { s with office := s.office.warmed, hall := { s.hall with startDue := none } }
  (s.dropRequests.warmSales.warmReport cause voided moved).recompute .warmStart

/-- WARM_START (R196): Hall Control performs the warm start that is due. -/
def execWarmStart (s : State) : Result :=
  .next <|
    match s.hall.power, s.hall.resetHeld, s.hall.startDue with
    | .run, false, some (.warm cause) => s.warmStart cause
    | _, _, _ => s

/-! ### The cold start (R197) -/

/-- Every block at its cold-start values. A set latch that called for the start is cleared (R195). -/
def State.coldStart (s : State) (byLatch : Bool) : State :=
  { State.reset with
    hall := { HallControl.initial with backupLatch := s.hall.backupLatch && !byLatch }
    pending := s.pending }

/-- COLD_START (R197): Hall Control performs the cold start that is due. -/
def execColdStart (s : State) : Result :=
  .next <|
    match s.hall.power, s.hall.resetHeld, s.hall.startDue with
    | .run, false, some (.cold byLatch) => s.coldStart byLatch
    | _, _, _ => s

end Sys2Proof.Machine
end

