-- ==== Sys2Proof/Machine/Dispatch.lean ====
section
/-! DEFINITION. The command each constructor of `Instr` runs. -/

namespace Sys2Proof.Machine

open Sys2Proof

/-- The effect of a command on everything but the queue of waiting commands. -/
def exec (i : Instr) (s : State) : Host.Outcome State Fault Refusal :=
  match i with
  | .officeFrameReceived bytes reading => Sys2Proof.Machine.execOfficeFrameReceived bytes reading s
  | .officeByteGapTimeout => Sys2Proof.Machine.execOfficeByteGapTimeout s
  | .frameSendStart => Sys2Proof.Machine.execFrameSendStart s
  | .frameSentInFull => Sys2Proof.Machine.execFrameSentInFull s
  | .creditOrder => Sys2Proof.Machine.execCreditOrder s
  | .cancelCredit => Sys2Proof.Machine.execCancelCredit s
  | .queryCredits => Sys2Proof.Machine.execQueryCredits s
  | .queryCard => Sys2Proof.Machine.execQueryCard s
  | .doubtDismiss => Sys2Proof.Machine.execDoubtDismiss s
  | .doubtList => Sys2Proof.Machine.execDoubtList s
  | .saleList => Sys2Proof.Machine.execSaleList s
  | .writeTimerSet => Sys2Proof.Machine.execWriteTimerSet s
  | .stopAdd => Sys2Proof.Machine.execStopAdd s
  | .stopRemove => Sys2Proof.Machine.execStopRemove s
  | .stopClear => Sys2Proof.Machine.execStopClear s
  | .stopList => Sys2Proof.Machine.execStopList s
  | .rangeSet => Sys2Proof.Machine.execRangeSet s
  | .rangeClear => Sys2Proof.Machine.execRangeClear s
  | .rangeDefault => Sys2Proof.Machine.execRangeDefault s
  | .rangeList => Sys2Proof.Machine.execRangeList s
  | .classQuery => Sys2Proof.Machine.execClassQuery s
  | .tariffBegin => Sys2Proof.Machine.execTariffBegin s
  | .tariffItems => Sys2Proof.Machine.execTariffItems s
  | .tariffGroup => Sys2Proof.Machine.execTariffGroup s
  | .tariffEnd => Sys2Proof.Machine.execTariffEnd s
  | .tariffSwapNow => Sys2Proof.Machine.execTariffSwapNow s
  | .tariffList => Sys2Proof.Machine.execTariffList s
  | .setClock => Sys2Proof.Machine.execSetClock s
  | .setPeriods => Sys2Proof.Machine.execSetPeriods s
  | .clockRead => Sys2Proof.Machine.execClockRead s
  | .laneSet l => Sys2Proof.Machine.execLaneSet l s
  | .laneSettings l => Sys2Proof.Machine.execLaneSettings l s
  | .enroll l => Sys2Proof.Machine.execEnroll l s
  | .release l => Sys2Proof.Machine.execRelease l s
  | .restore l => Sys2Proof.Machine.execRestore l s
  | .clearStationErrors l => Sys2Proof.Machine.execClearStationErrors l s
  | .clearLineStuck l => Sys2Proof.Machine.execClearLineStuck l s
  | .laneRead l => Sys2Proof.Machine.execLaneRead l s
  | .journalFetch => Sys2Proof.Machine.execJournalFetch s
  | .journalRelease => Sys2Proof.Machine.execJournalRelease s
  | .totalsRead => Sys2Proof.Machine.execTotalsRead s
  | .dayClose => Sys2Proof.Machine.execDayClose s
  | .setHall => Sys2Proof.Machine.execSetHall s
  | .openHall => Sys2Proof.Machine.execOpenHall s
  | .suspend => Sys2Proof.Machine.execSuspend s
  | .resume => Sys2Proof.Machine.execResume s
  | .status => Sys2Proof.Machine.execStatus s
  | .softReset => Sys2Proof.Machine.execSoftReset s
  | .clearAll => Sys2Proof.Machine.execClearAll s
  | .sendPoll l => Sys2Proof.Machine.execSendPoll l s
  | .laneAnswer l bytes => Sys2Proof.Machine.execLaneAnswer l bytes s
  | .answerTimeout l => Sys2Proof.Machine.execAnswerTimeout l s
  | .lineStuck l => Sys2Proof.Machine.execLineStuck l s
  | .lineIdleResume l => Sys2Proof.Machine.execLineIdleResume l s
  | .saleOpen => Sys2Proof.Machine.execSaleOpen s
  | .reverse => Sys2Proof.Machine.execReverse s
  | .saleDone => Sys2Proof.Machine.execSaleDone s
  | .saleTorn => Sys2Proof.Machine.execSaleTorn s
  | .saleCancel => Sys2Proof.Machine.execSaleCancel s
  | .deliveryEvent => Sys2Proof.Machine.execDeliveryEvent s
  | .writeTimerExpiry sale => Sys2Proof.Machine.execWriteTimerExpiry sale s
  | .lossEvent => Sys2Proof.Machine.execLossEvent s
  | .minuteAdvance => Sys2Proof.Machine.execMinuteAdvance s
  | .tariffBoundarySwap => Sys2Proof.Machine.execTariffBoundarySwap s
  | .periodCounterCapture => Sys2Proof.Machine.execPeriodCounterCapture s
  | .mainSupplyLoss => Sys2Proof.Machine.execMainSupplyLoss s
  | .mainSupplyReturn => Sys2Proof.Machine.execMainSupplyReturn s
  | .backupFailure => Sys2Proof.Machine.execBackupFailure s
  | .resetLineAssert => Sys2Proof.Machine.execResetLineAssert s
  | .resetLineRelease => Sys2Proof.Machine.execResetLineRelease s
  | .warmStart => Sys2Proof.Machine.execWarmStart s
  | .coldStart => Sys2Proof.Machine.execColdStart s
  | .secondsCountAdvance => Sys2Proof.Machine.execSecondsCountAdvance s
  | .officeStartMarker => Sys2Proof.Machine.execOfficeStartMarker s
  | .frameLengthOverLimit length => Sys2Proof.Machine.execFrameLengthOverLimit length s

end Sys2Proof.Machine
end

