-- ==== Sys2Proof/Safety.lean ====
section
/-! DEFINITION. What the spec says is so of every state of the part, in the terms that claims use. Each
predicate gathers the laws of one collection. -/

namespace Sys2Proof.Machine

open Sys2Proof

/-! ### The office line -/

/-- The capacities of 12 R188: at most 8 tags, no two of them equal (R189), 8 refusals and 32 reports. -/
structure OfficeLink.Within (o : OfficeLink) : Prop where
  tags : o.tags.length ≤ Config.tagTableSize
  distinct : (o.tags.map (·.tag)).Nodup
  refusals : o.refusals.length ≤ Config.refusalQueueSize
  reports : o.reports.length ≤ Config.reportQueueSize

/-- The tag of the host request of a work queue entry. -/
def Work.tag? : Work → Option Byte
  | .station _ _ _ => none
  | .host h => some h.tag

/-- The tag of a reply being sent. -/
def Sending.tag? (x : Sending) : Option Byte :=
  match x.frame with
  | .reply r => some r.tag
  | _ => none

/-- The tags of the requests that wait in a block, wait as a reply, or are being answered. -/
def State.heldTags (s : State) : List Byte :=
  s.hall.inbox.map (·.tag) ++ s.laneA.inbox.map (·.tag) ++ s.laneB.inbox.map (·.tag)
    ++ s.decoder.inbox.map (·.tag) ++ s.tariff.inbox.map (·.tag) ++ s.clock.inbox.map (·.tag)
    ++ s.totals.inbox.map (·.tag) ++ s.sale.queue.filterMap Work.tag?
    ++ s.office.replies.map (·.tag) ++ (s.office.sending.bind Sending.tag?).toList

/-- 12 R189, R196: while the part does not stand still, each outstanding request is in one place: not yet taken by its
block, answered and waiting, or being sent. None is lost and none is answered twice. -/
def State.TagsAccounted (s : State) : Prop :=
  s.started → (s.office.tags.map (·.tag)).Perm s.heldTags

/-- The station of a work queue entry. -/
def Work.station? : Work → Option StationId
  | .station st _ _ => some st
  | .host _ => none

/-- 04 R60, 09 R154, R155: at most 24 entries in the work queue, at most one of a station and 8 of the host; an
entry of a station is its outstanding request, whose reply has not come, orphaned where the station is ABSENT
or PENDING; and a reply stands in the slot only for an outstanding request that is not orphaned. -/
structure State.QueueLaw (s : State) : Prop where
  size : s.sale.queue.length ≤ Config.workQueueSize
  stations : (s.sale.queue.filterMap Work.station?).Nodup
  host : (s.sale.queue.filterMap Work.tag?).length ≤ 8
  waiting : ∀ st n q, Work.station st n q ∈ s.sale.queue →
    (s.station st).slot = none ∧ ∃ o, (s.station st).outstanding = some o ∧ o.request = n ∧
      ((s.station st).state = .absent ∨ (s.station st).state = .pending → o.orphaned = true)
  unasked : ∀ st, (s.station st).outstanding = none → (s.station st).slot = none
  orphaned : ∀ st, ∀ o ∈ (s.station st).outstanding, o.orphaned = true → (s.station st).slot = none

/-! ### The journal, the sales in flight and their numbers -/

/-- The number given last, 0 before the first. -/
def JournalTotals.last (j : JournalTotals) : Nat := if j.exhausted then j.next else j.next - 1

/-- 11 R178: consecutive numbers, ascending, the newest of them the last one given; R176's ranges. -/
structure JournalTotals.Consecutive (j : JournalTotals) : Prop where
  next_pos : 1 ≤ j.next
  next_le : j.next ≤ Config.lastJournalNumber
  exhausted : j.exhausted = true → j.next = Config.lastJournalNumber
  size : j.journal.length ≤ Config.journalSize
  given : j.journal.length ≤ j.last
  numbers : j.journal.map (·.number) =
    List.range' (j.last + 1 - j.journal.length) j.journal.length

/-- 04 R64: the sale numbers of contexts and doubt entries are 1 to 65535 and pairwise different. -/
structure SaleEngine.Numbered (e : SaleEngine) : Prop where
  distinct : e.heldNumbers.Nodup
  range : ∀ n ∈ e.heldNumbers, 1 ≤ n ∧ n ≤ 65535
  counter_pos : 1 ≤ e.counter
  counter_le : e.counter ≤ 65535

/-- 11 R179: every context and every doubt entry has a free journal record. -/
def State.Reserved (s : State) : Prop :=
  s.sale.contexts.length + s.sale.doubts.length ≤ s.totals.free

/-- The journal's law of 11 R178 and R179 with the numbers it is kept by. -/
structure State.JournalLaw (s : State) : Prop where
  consecutive : s.totals.Consecutive
  numbered : s.sale.Numbered
  reserved : s.Reserved

/-! ### Credit orders -/

/-- The sales in flight: those of contexts and those of doubt entries. -/
def SaleEngine.inFlight (e : SaleEngine) : List SaleData :=
  e.contexts.map (·.data) ++ e.doubts.map (·.data)

/-- 06 R103, R105: order ids are unique; an order is RIDING exactly when a sale in flight names it, and
then on that sale's number; a sale names at most 4 orders, whose total is at most 400,000. -/
structure SaleEngine.OrdersRide (e : SaleEngine) : Prop where
  unique : (e.credits.map (·.id)).Nodup
  named : ∀ d ∈ e.inFlight, ∀ id ∈ d.riding,
    ∃ o ∈ e.credits, o.id = id ∧ o.state = .riding d.sale
  riding : ∀ o ∈ e.credits, ∀ n, o.state = .riding n →
    ∃ d ∈ e.inFlight, d.sale = n ∧ o.id ∈ d.riding
  few : ∀ d ∈ e.inFlight, d.riding.length ≤ Config.ridingLimit
  amounts : ∀ o ∈ e.credits, 1 ≤ o.amount ∧ o.amount ≤ 100000
  total : ∀ d ∈ e.inFlight, 0 ≤ d.figures.k ∧ d.figures.k ≤ 400000
  size : e.credits.length ≤ Config.creditListSize

/-! ### Cards -/

/-- 04 R56, 05 R87, 07 R116 to R119: one context at a station, at most 64 doubt entries, one sale in
flight of a card, one record of a card, at most 4,096 records, and each flag of a record set exactly
while a context or an entry of its card stands. -/
structure SaleEngine.CardsHeld (e : SaleEngine) : Prop where
  stations : (e.contexts.map (·.data.station)).Nodup
  doubts : e.doubts.length ≤ Config.doubtListSize
  cards : (e.inFlight.map (·.card)).Nodup
  records : (e.memory.map (·.card)).Nodup
  size : e.memory.length ≤ Config.cardMemorySize
  inUse : ∀ c ∈ e.contexts, ∃ r ∈ e.memory, r.card = c.data.card ∧ r.inUse = some c.data.station
  inUseBack : ∀ r ∈ e.memory, ∀ st, r.inUse = some st →
    ∃ c ∈ e.contexts, c.data.card = r.card ∧ c.data.station = st
  doubted : ∀ d ∈ e.doubts, ∃ r ∈ e.memory, r.card = d.data.card ∧ r.doubt = true
  doubtedBack : ∀ r ∈ e.memory, r.doubt = true → ∃ d ∈ e.doubts, d.data.card = r.card

/-- 09 R155: a station's context flag names a sale exactly while the Sale Engine holds that context of
the station. -/
def State.FlagsAgree (s : State) : Prop :=
  ∀ st n, (s.station st).contextFlag = some n ↔
    ∃ c ∈ s.sale.contexts, c.data.station = st ∧ c.data.sale = n

/-! ### The decoder, the tariffs and the clock -/

/-- 03 R43: the Stop List is ascending without repeats and holds at most 512 numbers. -/
def Decoder.Ordered (d : Decoder) : Prop :=
  d.stop.Pairwise (· < ·) ∧ d.stop.length ≤ Config.stopListSize

/-- 02 R18: at most 1,024 items in ascending code order, each within its limits. -/
structure TariffSet.Within (t : TariffSet) : Prop where
  ascending : (t.items.map (·.code)).Pairwise (· < ·)
  size : t.items.length ≤ Config.priceListSize
  items : ∀ i ∈ t.items, itemOk i
  groups : ∀ g ∈ t.groups.toList, g = g.clamped

/-- 08 R136, R141: both sets within their limits, and a generation of at most 65535. -/
structure TariffUnit.Within (t : TariffUnit) : Prop where
  active : t.active.Within
  staged : ∀ g, t.staging.set? = some g → g.Within
  generation : t.generation ≤ 65535

/-- 08 R127, R130: the ranges of the clock, a schedule of 1 to 8 entries with rising start minutes, and
the held kind and index those of the schedule as last recomputed. An unset clock stands at day 0, minute
0 (R129). -/
structure HallClock.Within (c : HallClock) : Prop where
  day : c.day ≤ 65535
  minute : c.minute ≤ 1439
  second : c.second ≤ 59
  schedule_pos : 1 ≤ c.schedule.length
  schedule_size : c.schedule.length ≤ 8
  rising : (c.schedule.map (·.start)).Pairwise (· < ·)
  starts : ∀ e ∈ c.schedule, e.start ≤ 1439
  unset : c.isSet = false → c.day = 0 ∧ c.minute = 0 ∧ c.second = 0
  fits : ∀ h ∈ c.inbox, h.request.fits

/-- The held stamp and kind are those of the held time: so unless the part stands still, since a minute advance
in RETAIN or under a held RESET line alone leaves them behind (08 R128, R133). -/
def State.PeriodCurrent (s : State) : Prop :=
  s.started →
    s.clock.stamp = ⟨s.clock.day, currentIndex s.clock.schedule s.clock.minute⟩ ∧
    s.clock.kind = currentKind s.clock.schedule s.clock.minute

/-- The first index of which `P` holds. -/
def FirstIndex (P : Nat → Prop) (i : Nat) : Prop := P i ∧ ∀ j, j < i → ¬ P j

/-- 02 R21: the line at index `i` is one of more than 12, or has an item code outside 1 to 9999 or a quantity
outside 1 to 9. -/
def LineOffends (lines : List BasketLine) (i : Nat) : Prop :=
  ∃ x, lines[i]? = some x ∧ (12 ≤ i ∨ ¬ (1 ≤ x.code.toNat ∧ x.code.toNat ≤ 9999) ∨
    ¬ (1 ≤ x.quantity.toNat ∧ x.quantity.toNat ≤ 9))

/-- 08 R138: the item at index `i` is against a limit, or is one of more than 40. -/
def ItemOffends (items : List PriceItem) (i : Nat) : Prop :=
  ∃ x, items[i]? = some x ∧ (40 ≤ i ∨ ¬ (1 ≤ x.code ∧ x.code ≤ 9999) ∨ 99999 < x.price ∨
    ∀ p, x.mask.get p = false)

/-- 08 R131: the entry at index `i` is one of more than 8, starts above 1439 or not after the one before
it, or has a kind that is neither MEAL nor CLOSED. -/
def PeriodOffends (entries : List AskedPeriod) (i : Nat) : Prop :=
  ∃ e, entries[i]? = some e ∧ (8 ≤ i ∨ 1439 < e.start ∨ e.kind = none ∨
    ∃ b, entries[i - 1]? = some b ∧ 0 < i ∧ e.start ≤ b.start)

/-- An entry of the schedule as SET_PERIODS carries it. -/
def PeriodEntry.asked (e : PeriodEntry) : AskedPeriod := ⟨e.start, some e.kind⟩

/-! ### Stations -/

/-- 09 R146 and chapter 10: the ranges of a station record; the values R146 and R160 give an ABSENT or
PENDING station, what an ABSENT one has besides, its outstanding request being orphaned; and those of a
DROPPED or HELD one (R165, R166, R158). -/
structure StationRecord.Within (r : StationRecord) : Prop where
  score : r.score ≤ 255
  calls : r.cleanCalls ≤ 32
  waits : r.waits ≤ 1000
  silent : r.silent ≤ 8
  unserved : r.state = .absent ∨ r.state = .pending →
    r.role = none ∧ r.score = 0 ∧ r.cleanCalls = 0 ∧ r.waits = 0 ∧ r.errors = .empty ∧
      r.leaveRequested = false
  absent : r.state = .absent →
    r.slot = none ∧ r.busy = none ∧ r.lastRequest = none ∧ r.silent = 0
  orphaned : r.state = .absent → ∀ o ∈ r.outstanding, o.orphaned = true
  failed : r.state = .dropped ∨ r.state = .held →
    r.score = 255 ∧ r.waits = 0 ∧ r.leaveRequested = false

/-- 09 R145, R148: the settings' ranges; the records' own, a consecutive-wait count staying below the
lane's wait limit (10 R166); and an OFF lane has every station ABSENT and no exchange (R149). -/
structure LaneControl.Within (c : LaneControl) : Prop where
  timeout : 1 ≤ c.settings.timeout ∧ c.settings.timeout ≤ 15
  waitLimit : 1 ≤ c.settings.waitLimit ∧ c.settings.waitLimit ≤ 1000
  stations : ∀ a, (c.stations.get a).Within
  waits : ∀ a, (c.stations.get a).waits < c.settings.waitLimit
  off : c.mode = .off → c.exchange = none ∧ ∀ a, (c.stations.get a).state = .absent

def State.LanesWithin (s : State) : Prop := s.laneA.Within ∧ s.laneB.Within

/-- 09 R153: `y` is the record `r` once an answer that has last seen the reply to `seen` has been read for its
confirmation: the slot empties and the outstanding request becomes NONE only for a reply that was sent. -/
structure Confirms (r : StationRecord) (seen : Option Byte) (y : StationRecord) : Prop where
  taken : ∀ x, r.slot = some x → x.sent = true → seen = some x.request →
    y = { r with slot := none, outstanding := none }
  kept : (∀ x, r.slot = some x → x.sent = true → seen ≠ some x.request) → y = r

/-- The kinds that an error record holds (10 R173). -/
def FailureSet.has (f : FailureSet) : FailureKind → Bool
  | .noAnswer => f.noAnswer
  | .badCheck => f.badCheck
  | .badForm => f.badForm
  | .wrongAddress => f.wrongAddress
  | .waitLimit => f.waitLimit

/-- 10 R173: under ALL, and under FIRST while the record `f` is empty, the kind `k` is added to it; else it
stays. -/
structure RecordsFailure (m : ErrorMode) (f : FailureSet) (k : FailureKind) (g : FailureSet) : Prop where
  added : m = .all ∨ f = .empty → ∀ j, g.has j = true ↔ j = k ∨ f.has j = true
  kept : m = .first → f ≠ .empty → g = f

/-- 10 R165, R167: the record after an exchange that takes 1 from the score, `waits` being the new
consecutive-wait count; a DOUBTFUL station below 64 becomes GOOD. -/
def StationRecord.passed (r : StationRecord) (waits : Nat) : StationRecord :=
  { r with
    state := if r.state = .doubtful ∧ r.score - 1 < 64 then .good else r.state
    score := r.score - 1
    waits := waits }

/-- 10 R167: the report of that change. -/
def StationRecord.passedReports (r : StationRecord) (st : StationId) (now : Time) : List Report :=
  if r.state = .doubtful ∧ r.score - 1 < 64 then
    [.stationState st .doubtful .good .scoreDown (r.score - 1) r.cleanCalls r.errors now]
  else []

/-- 09 R158: the station asked to leave while it held a context. -/
def StationRecord.leaves (r : StationRecord) : Bool :=
  decide (r.leaveRequested = true ∧ (r.state = .good ∨ r.state = .doubtful))

/-- 09 R155, R158: the record after the context-ended notice. -/
def StationRecord.freed (r : StationRecord) : StationRecord :=
  if r.leaves then { r with contextFlag := none, state := .leaving, leaveRequested := false }
  else { r with contextFlag := none }

/-- 09 R158: the report of a station that then becomes LEAVING. -/
def State.leavingReports (s : State) (st : StationId) : List Report :=
  if (s.station st).leaves then [.stationLeaving st] else []

/-- A lane's own fields, all but its station records, are those of `s`. -/
def State.LanesKept (s t : State) : Prop :=
  ∀ l, t.lane l = { s.lane l with stations := (t.lane l).stations }

/-- 09 R151, R152: the exchange of lane `l`, whose poll was of kind `k`, is over; after a roll-call the round
begins again at address 1 (log entry 14). Beyond the station records the lanes keep the rest. -/
def State.ExchangeOver (s : State) (l : Lane) (k : PollKind) (t : State) : Prop :=
  t.lane l = { s.lane l with
    exchange := none
    position := if k = .rollCall then some 0 else (s.lane l).position
    stations := (t.lane l).stations } ∧
  ∀ m, m ≠ l → t.lane m = s.lane m

/-- The reports joined the queue, oldest first (12 R191). -/
def OfficeLink.reported (o : OfficeLink) (rs : List Report) : OfficeLink := rs.foldl OfficeLink.queueReport o

/-! ### One record more -/

/-- 11 R178, R182, R183: the Journal and Totals unit after an append. -/
def State.totalsAfter (s : State) (b : RecordBody) : JournalTotals :=
  { s.totals with
    journal := s.totals.journal ++ [{ number := s.totals.next, time := s.time, body := b }]
    next := if s.totals.next < 4294967295 then s.totals.next + 1 else s.totals.next
    exhausted := s.totals.exhausted || decide (4294967295 ≤ s.totals.next)
    high := s.totals.high || decide (s.totals.journal.length + 1 = 1792)
    period := stationSet s.totals.period b.station ((stationGet s.totals.period b.station).count b)
    daily := stationSet s.totals.daily b.station ((stationGet s.totals.daily b.station).count b) }

/-- 11 R177: `b` is the record of the sale `d` with the outcome `o`, its number and time apart. -/
structure RecordOf (d : SaleData) (o : RecordOutcome) (b : RecordBody) : Prop where
  kind : (d.kind = .sale → b.kind = .sale) ∧ (d.kind = .credit → b.kind = .credit) ∧
    (d.kind = .reversal → b.kind = .reversal)
  outcome : b.outcome = o
  place : b.station = d.station ∧ b.card = d.card ∧ b.cardKind = d.cardKind ∧ b.sale = d.sale
  priced : b.stamp = d.stamp ∧ b.generation = d.generation
  figures : b.g = d.figures.g ∧ b.s = d.figures.s ∧ b.a = d.figures.a ∧ b.c = d.figures.c
  credits : b.creditTotal = d.figures.k ∧ b.creditIds = d.riding
  balanceAfter : b.balanceAfter = some d.newBalance
  sequenceAfter : b.sequenceAfter =
    if o = .committed ∨ o = .committedLate then some d.expected else none
  reversed : b.reversed = d.reversed

/-- 11 R183: `u` is the set of counters `t` once the record `b` has been counted, every counter saturating at
4,294,967,295; an amount joins a sum that starts at 0 and is no less than 0. -/
structure Counted (t : Counters) (b : RecordBody) (u : Counters) : Prop where
  uncounted : b.outcome = .voidedAfterDoubt ∨ b.outcome = .unresolved → u = t
  sale : b.outcome = .committed ∨ b.outcome = .committedLate → b.kind = .sale →
    u = { t with
      sales := min (t.sales + 1) 4294967295
      charged := min (t.charged + b.c.toNat) 4294967295
      subsidy := min (t.subsidy + b.s.toNat) 4294967295
      allowance := min (t.allowance + b.a.toNat) 4294967295
      credits := min (t.credits + b.creditTotal.toNat) 4294967295 }
  credit : b.outcome = .committed ∨ b.outcome = .committedLate → b.kind = .credit →
    u = { t with credits := min (t.credits + b.creditTotal.toNat) 4294967295 }
  reversal : b.outcome = .committed ∨ b.outcome = .committedLate → b.kind = .reversal →
    u = { t with
      reversals := min (t.reversals + 1) 4294967295
      reversalSum := min (t.reversalSum + (-b.c).toNat) 4294967295 }
  cash : b.outcome = .committed ∨ b.outcome = .committedLate → b.kind = .cash →
    u = { t with
      cashCount := min (t.cashCount + 1) 4294967295
      cashSum := min (t.cashSum + b.c.toNat) 4294967295 }

/-- 07 R122: the last-sale part of the sale `d` committed by the record `journal`. -/
def SaleData.lastPart (d : SaleData) (journal : Nat) : LastSale where
  sale := d.sale
  journal := journal
  kind := d.kind
  c := d.figures.c
  a := d.figures.a
  stamp := d.stamp
  seqAfter := d.expected
  reversed := false

/-- 11 R182: an append that brings the count to 1,792 while the mark is ARMED queues JOURNAL_HIGH. -/
def State.highReports (s : State) (b : RecordBody) : List Report :=
  let j := s.totalsAfter b
  if s.totals.high = false ∧ s.totals.journal.length + 1 = 1792 then
    [.journalHigh 1792 (s.totals.oldest.getD s.totals.next) s.totals.next j.free s.time]
  else []

/-- 06 R111: CREDIT_DELIVERED for a sale that named an order. -/
def State.deliveredReports (s : State) (d : SaleData) (how : SaleEnd) : List Report :=
  if d.riding = [] then []
  else [.creditDelivered d.card d.sale d.station how s.totals.next
    (namedOrders d.riding s.sale.credits) d.figures.k]

/-- The end that a record's outcome stands for (04 R76, 05 R95). -/
def RecordOutcome.saleEnd : RecordOutcome → SaleEnd
  | .committed => .committed
  | .committedLate => .committedLate
  | .voidedAfterDoubt => .voidedAfterDoubt
  | .unresolved => .unresolved

/-! ### The card and the doubt -/

def SlotIndex.other : SlotIndex → SlotIndex
  | .zero => .one
  | .one => .zero

/-- The image of a card whose slot `i` has come to hold `p` (01 R2). -/
def CardImage.withSlot (image : CardImage) (i : SlotIndex) (p : Option PurseSlot) : CardImage :=
  match i with
  | .zero => { image with slot0 := p }
  | .one => { image with slot1 := p }

/-- The entry a move pushes out: the oldest of a full list (05 R90). -/
def SaleEngine.pushed (e : SaleEngine) : Option DoubtEntry :=
  if Config.doubtListSize ≤ e.doubts.length then e.doubts.head? else none

/-- 05 R92 to R95: what holds after the entry `e` of `s` has ended with the outcome `o` by the way `way`. -/
structure EndsDoubt (s : State) (e : DoubtEntry) (o : RecordOutcome) (way : DoubtWay) (t : State) :
    Prop where
  totals : t.totals = s.totalsAfter (e.data.record o)
  counted : o = .voidedAfterDoubt ∨ o = .unresolved →
    t.totals.period = s.totals.period ∧ t.totals.daily = s.totals.daily
  doubts : t.sale.doubts = s.sale.doubts.filter fun x => x.data.sale ≠ e.data.sale
  credits : t.sale.credits =
    if o = .voidedAfterDoubt then returnOrders e.data.riding s.sale.credits
    else removeOrders e.data.riding s.sale.credits
  memory : t.sale.memory =
    updateCard
      (if o = .committedLate then updateCard s.sale.memory e.data.card
          (CardRecord.committedLate e.data s.hall.hallId s.totals.next s.time)
        else s.sale.memory) e.data.card (CardRecord.setDoubt false)
  notes : t.sale.lastClosed =
    stationSet s.sale.lastClosed e.data.station (some ⟨e.data.sale, o.saleEnd⟩)
  engine : t.sale.contexts = s.sale.contexts ∧ t.sale.queue = s.sale.queue ∧
    t.sale.counter = s.sale.counter ∧ t.sale.timerSetting = s.sale.timerSetting ∧
    t.sale.deliveries = s.sale.deliveries ∧ t.sale.losses = s.sale.losses
  office : t.office = s.office.reported
    (s.highReports (e.data.record o)
      ++ (if o = .committedLate then s.deliveredReports e.data .committedLate else [])
      ++ [.doubtClosed e.data.card e.data.sale e.data.station o.saleEnd way s.totals.next
          t.sale.doubts.length])
  others : t.laneA = s.laneA ∧ t.laneB = s.laneB ∧ t.hall = s.hall ∧ t.decoder = s.decoder ∧
    t.tariff = s.tariff ∧ t.clock = s.clock ∧ t.pending = s.pending

/-- 04 R78, 06 R111, 07 R122: what holds after the context `c` of `s` has been committed. -/
structure IsCommit (s : State) (c : Context) (t : State) : Prop where
  totals : t.totals = s.totalsAfter (c.data.record .committed)
  contexts : t.sale.contexts = s.sale.contexts.filter fun x => x.data.sale ≠ c.data.sale
  credits : t.sale.credits = removeOrders c.data.riding s.sale.credits
  memory : t.sale.memory = updateCard s.sale.memory c.data.card
    (CardRecord.committed c.data s.hall.hallId s.totals.next s.time)
  notes : t.sale.lastClosed =
    stationSet s.sale.lastClosed c.data.station (some ⟨c.data.sale, .committed⟩)
  station : t.station c.data.station = (s.station c.data.station).freed
  stations : ∀ st, st ≠ c.data.station → t.station st = s.station st
  lanes : s.LanesKept t
  engine : t.sale.doubts = s.sale.doubts ∧ t.sale.queue = s.sale.queue ∧
    t.sale.counter = s.sale.counter ∧ t.sale.timerSetting = s.sale.timerSetting ∧
    t.sale.deliveries = s.sale.deliveries ∧ t.sale.losses = s.sale.losses
  office : t.office = s.office.reported
    (s.highReports (c.data.record .committed) ++ s.deliveredReports c.data .committed
      ++ s.leavingReports c.data.station)
  others : t.hall = s.hall ∧ t.decoder = s.decoder ∧ t.tariff = s.tariff ∧ t.clock = s.clock ∧
    t.pending = s.pending

/-- 04 R82, 05 R89, R90, 09 R155, R158: what holds after the context `c` of `s` has moved to the Doubt
List. -/
structure IsMoveToDoubt (s : State) (c : Context) (cause : DoubtCause) (t : State) : Prop where
  contexts : t.sale.contexts = s.sale.contexts.filter fun x => x.data.sale ≠ c.data.sale
  doubts : t.sale.doubts =
    (if s.sale.pushed.isSome then s.sale.doubts.tail else s.sale.doubts)
      ++ [{ data := c.data, created := s.time, cause := cause }]
  credits : t.sale.credits =
    match s.sale.pushed with
    | none => s.sale.credits
    | some e => removeOrders e.data.riding s.sale.credits
  totals : t.totals =
    match s.sale.pushed with
    | none => s.totals
    | some e => s.totalsAfter (e.data.record .unresolved)
  counters : t.totals.period = s.totals.period ∧ t.totals.daily = s.totals.daily
  station : t.station c.data.station = ((s.station c.data.station).withdraw c.data.sale).freed
  order : (t.station c.data.station).holdsOrder c.data.sale = false
  stations : ∀ st, st ≠ c.data.station → t.station st = s.station st
  lanes : s.LanesKept t
  engine : t.sale.queue = s.sale.queue ∧ t.sale.counter = s.sale.counter ∧
    t.sale.timerSetting = s.sale.timerSetting ∧ t.sale.deliveries = s.sale.deliveries ∧
    t.sale.losses = s.sale.losses
  memory : t.sale.memory =
    updateCard
      (match s.sale.pushed with
        | none => s.sale.memory
        | some e => updateCard s.sale.memory e.data.card (CardRecord.setDoubt false))
      c.data.card fun r => (r.setDoubt true).setInUse none
  notes : t.sale.lastClosed =
    match s.sale.pushed with
    | none => s.sale.lastClosed
    | some e => stationSet s.sale.lastClosed e.data.station (some ⟨e.data.sale, .unresolved⟩)
  office : t.office = s.office.reported
    ((match s.sale.pushed with
      | none => []
      | some e => s.highReports (e.data.record .unresolved)
        ++ [.doubtClosed e.data.card e.data.sale e.data.station .unresolved .pushOut s.totals.next
            s.sale.doubts.tail.length])
      ++ [.doubtRaised c.data.card c.data.sale c.data.station c.data.kind cause c.data.expected
          c.data.riding t.sale.doubts.length]
      ++ s.leavingReports c.data.station)
  others : t.hall = s.hall ∧ t.decoder = s.decoder ∧ t.tariff = s.tariff ∧ t.clock = s.clock ∧
    t.pending = s.pending

/-- 04 R81, 09 R155, R158: what holds after the context `c` of `s` has been voided. -/
structure IsVoid (s : State) (c : Context) (t : State) : Prop where
  contexts : t.sale.contexts = s.sale.contexts.filter fun x => x.data.sale ≠ c.data.sale
  credits : t.sale.credits = returnOrders c.data.riding s.sale.credits
  memory : t.sale.memory = updateCard s.sale.memory c.data.card (CardRecord.setInUse none)
  notes : t.sale.lastClosed =
    stationSet s.sale.lastClosed c.data.station (some ⟨c.data.sale, .voided⟩)
  station : t.station c.data.station =
    (if c.state = .pricedUnsent then (s.station c.data.station).withdraw c.data.sale
      else s.station c.data.station).freed
  order : c.state = .pricedUnsent → (t.station c.data.station).holdsOrder c.data.sale = false
  stations : ∀ st, st ≠ c.data.station → t.station st = s.station st
  lanes : s.LanesKept t
  engine : t.sale.queue = s.sale.queue ∧ t.sale.counter = s.sale.counter ∧
    t.sale.timerSetting = s.sale.timerSetting ∧ t.sale.doubts = s.sale.doubts ∧
    t.sale.deliveries = s.sale.deliveries ∧ t.sale.losses = s.sale.losses
  office : t.office = s.office.reported (s.leavingReports c.data.station)
  others : t.hall = s.hall ∧ t.decoder = s.decoder ∧ t.tariff = s.tariff ∧ t.clock = s.clock ∧
    t.totals = s.totals ∧ t.pending = s.pending

/-! ### The slots of a card -/

/-- 01 R12: what the slot's counters are taken as under the stamp `now`. -/
structure CountersTaken (p : PurseSlot) (now : Stamp) (used spent : Nat) : Prop where
  same : p.stampDay.toNat = now.day → p.stampPeriod.toNat = now.period → used = p.allowanceUsed.toNat
  period : p.stampPeriod.toNat ≠ now.period → used = 0
  today : p.stampDay.toNat = now.day → spent = min p.spendToday.toNat 999999
  day : p.stampDay.toNat ≠ now.day → used = 0 ∧ spent = 0

/-- 01 R13 to R15: the fields of the slot that a context orders written, from the current slot's sequence `q`,
the balance after, the hall id, the sale number, the stamp, and the two counters before they are held to 0 to
65,535 and 0 to 999,999. -/
structure NewSlot (q : Seq) (balance : Int) (hall sale : Nat) (now : Stamp) (used spent : Int)
    (p : PurseSlot) : Prop where
  sequence : p.sequence = q + 1
  balance : p.balance = BitVec.ofInt 24 balance
  writer : p.writerHall = BitVec.ofNat 8 hall ∧ p.writerSale = BitVec.ofNat 16 sale
  stamp : p.stampDay = BitVec.ofNat 16 now.day ∧ p.stampPeriod = BitVec.ofNat 3 now.period
  allowanceUsed : (p.allowanceUsed.toNat : Int) = max 0 (min used 65535)
  spendToday : (p.spendToday.toNat : Int) = max 0 (min spent 999999)
  check : p.check = crc8 (p.bytes.take 15)

/-! ### A new context -/

/-- 02 R28: the riding orders of a sale charged `c` on a card: the first of its PENDING orders in arrival
order, each of them fitting after those before it, until four are chosen, none is left, or the next would carry
the balance past 999,999. -/
structure ChosenOrders (i : PriceInput) (c : Nat) (riding : List CreditOrder) : Prop where
  first : riding <+: i.orders
  few : riding.length ≤ 4
  fit : ∀ before o, before ++ [o] <+: riding → i.balance + totalOf before + o.amount - c ≤ 999999
  stop : ∀ o, i.orders[riding.length]? = some o → riding.length < 4 →
    999999 < i.balance + totalOf riding + o.amount - c

/-- The input of pricing for a card on the purse path (01 R12, 02 R22). -/
def State.priceInput (s : State) (card group : Nat) (allowance : Bool) (slot : PurseSlot) : PriceInput where
  group := group
  allowanceEnabled := allowance
  balance := slot.money
  u := takenAllowance slot s.clock.stamp
  d := takenSpend slot s.clock.stamp
  orders := pendingOrders s.sale.credits card

/-- 04 R63, R64, R69, 01 R13 to R15: what a context opened from the sale `sale` holds. The figures A and C of a
reversal are the negatives of the reversed sale's, so that its slot's counters are those less them. -/
structure ContextFor (s : State) (st : StationId) (card : Nat) (slot : PurseSlot) (target : SlotIndex)
    (sale : Priced) (reversed : Option Nat) (c : Context) : Prop where
  number : c.data.sale = s.sale.assignedNumber
  station : c.data.station = st
  card : c.data.card = card
  kind : c.data.kind = sale.kind
  stamp : c.data.stamp = s.clock.stamp
  generation : c.data.generation = s.tariff.generation
  figures : c.data.figures = sale.figures
  riding : c.data.riding = sale.riding.map (·.id)
  expected : c.data.expected = slot.sequence + 1
  newBalance : c.data.newBalance = sale.newBalance
  reversed : c.data.reversed = reversed
  target : c.target = target
  state : c.state = .pricedUnsent
  newSlot : NewSlot slot.sequence sale.newBalance (s.hall.hallId.getD 0) c.data.sale s.clock.stamp
    (takenAllowance slot s.clock.stamp + sale.figures.a) (takenSpend slot s.clock.stamp + sale.figures.c)
    c.slot

/-- 07 R119: the record that leaves a full map: of those with both flags clear the one last seen first, and
of several the one with the lowest card number. -/
structure LeavesFirst (memory : List CardRecord) (v : CardRecord) : Prop where
  held : v ∈ memory
  clear : v.inUse = none ∧ v.doubt = false
  first : ∀ x ∈ memory, x.inUse = none → x.doubt = false →
    v.lastSeen.day < x.lastSeen.day ∨
    v.lastSeen.day = x.lastSeen.day ∧ v.lastSeen.minute < x.lastSeen.minute ∨
    v.lastSeen = x.lastSeen ∧ v.card ≤ x.card

/-- 04 R65 step 6, 07 R119, R120: `t` is `s` once the record of the card, which showed `slot` and passed,
has been updated, or created with room made on a full map. Nothing else changes. -/
structure MeetsCard (s : State) (card : Nat) (slot : PurseSlot) (t : State) : Prop where
  found : ∀ old, findCard s.sale.memory card = some old →
    findCard t.sale.memory card = some { old with
      seq := slot.sequence, balance := slot.money, writer := slot.writer, lastSeen := s.time } ∧
    ∀ x, x ≠ card → findCard t.sale.memory x = findCard s.sale.memory x
  created : findCard s.sale.memory card = none →
    findCard t.sale.memory card =
      some ⟨card, slot.sequence, slot.money, slot.writer, s.time, none, false, none⟩ ∧
    (s.sale.memory.length < 4096 →
      ∀ x, x ≠ card → findCard t.sale.memory x = findCard s.sale.memory x) ∧
    (4096 ≤ s.sale.memory.length → ∀ v, LeavesFirst s.sale.memory v →
      findCard t.sale.memory v.card = none ∧
      ∀ x, x ≠ card → x ≠ v.card → findCard t.sale.memory x = findCard s.sale.memory x)
  others : t = { s with sale := { s.sale with memory := t.sale.memory } }

/-- 04 R69, 06 R110, 07 R118, 09 R155: `t` is `s`, as steps 1 to 9 left it, with the context `c` opened for
request `n` of station `st`, whose card showed `slot`. -/
structure OpensContext (s : State) (st : StationId) (n : Byte) (card : Nat) (slot : PurseSlot)
    (target : SlotIndex) (sale : Priced) (reversed : Option Nat) (t : State) (c : Context) : Prop where
  context : ContextFor s st card slot target sale reversed c
  contexts : t.sale.contexts = insertContext c s.sale.contexts
  counter : t.sale.counter = if 65535 ≤ c.data.sale then 1 else c.data.sale + 1
  credits : t.sale.credits = rideOrders c.data.riding c.data.sale s.sale.credits
  memory : t.sale.memory = updateCard s.sale.memory card (CardRecord.setInUse (some st))
  station : t.station st = ({ s.station st with contextFlag := some c.data.sale } : StationRecord).takeReply n
    (.writeOrder (c.order s.sale.timerSetting))
  stations : ∀ su, su ≠ st → t.station su = s.station su
  lanes : s.LanesKept t
  engine : t.sale.queue = s.sale.queue ∧ t.sale.timerSetting = s.sale.timerSetting ∧
    t.sale.lastClosed = s.sale.lastClosed ∧ t.sale.doubts = s.sale.doubts ∧
    t.sale.deliveries = s.sale.deliveries ∧ t.sale.losses = s.sale.losses
  others : t.office = s.office ∧ t.hall = s.hall ∧ t.decoder = s.decoder ∧ t.tariff = s.tariff ∧
    t.clock = s.clock ∧ t.totals = s.totals ∧ t.pending = s.pending

/-- 04 R68, R69, R72, 02 R22, R38, R39, 07 R124: what steps 8 to 10 answer from the state `u` that steps 1 to 7
left: `answers t` says that the request answers `t`. The preconditions 2 to 5 of a REVERSE are tested in order on
the last-sale part of the card's record, the current slot and the stamp. -/
structure LaterSteps (u : State) (st : StationId) (n : Byte) (card g : Nat) (allowance : Bool)
    (kind : CardKind) (slot : PurseSlot) (target : SlotIndex) (p : Presented) (answers : State → Prop) :
    Prop where
  full : u.totals.free ≤ u.sale.contexts.length + u.sale.doubts.length →
    answers (u.giveReply st n (.journalFull u.totals.free))
  sale : u.sale.contexts.length + u.sale.doubts.length < u.totals.free →
    ∀ lines, p = .basket lines →
      (∀ reply, priceSale u.consult lines (u.priceInput card g allowance slot) = .answered reply →
        answers (u.giveReply st n reply)) ∧
      ∀ x, priceSale u.consult lines (u.priceInput card g allowance slot) = .priced x →
        ∃ t c, answers t ∧ OpensContext u st n card slot target x none t c ∧ c.data.cardKind = kind
  reversal : u.sale.contexts.length + u.sale.doubts.length < u.totals.free → p = .reversal →
    let last := (findCard u.sale.memory card).bind fun r => r.lastSale
    let refused (k : Nat) : Prop := answers (u.giveReply st n (.notReversible k))
    (last = none → refused 2) ∧
    ∀ l, last = some l →
      let mark : Prop := u.hall.hallId = some slot.writerHall.toNat ∧ slot.writerSale.toNat = l.sale ∧
        l.sale ≠ 0
      (l.kind ≠ .sale ∨ l.reversed = true → refused 2) ∧
      (l.kind = .sale → l.reversed = false →
        (slot.sequence ≠ l.seqAfter ∨ ¬ mark → refused 3) ∧
        (slot.sequence = l.seqAfter → mark →
          (l.stamp ≠ u.clock.stamp → refused 4) ∧
          (l.stamp = u.clock.stamp →
            (999999 < slot.balance.toInt + l.c → refused 5) ∧
            (slot.balance.toInt + l.c ≤ 999999 →
              ∃ t c, answers t ∧
                OpensContext u st n card slot target
                  { kind := .reversal
                    figures := { g := -(l.a + l.c), s := 0, a := -l.a, c := -l.c, k := 0 }
                    riding := [], newBalance := slot.balance.toInt + l.c } (some l.journal) t c ∧
                c.data.cardKind = kind))))

/-! ### The warm start -/

/-- The entries a warm start pushes out to place the contexts it moves (04 R86, 05 R90). -/
def SaleEngine.pushedByStart (e : SaleEngine) : List DoubtEntry :=
  e.doubts.take (e.doubts.length + e.ordered.length - 64)

/-- 12 R196, 04 R86, 08 R144, 09 R162, 11 R187: `t` is `s` after a warm start with the cause `cause`. -/
structure IsWarmStart (s : State) (cause : WarmCause) (t : State) : Prop where
  office : t.office = { s.office with
    receiver := .hunting, tags := [], refusals := [], replies := [], closing := none, sending := none
    overflow := s.office.overflow || decide (32 < s.office.reports.length + s.sale.ordered.length
      + s.sale.pushedByStart.length
      + if s.totals.high = false ∧ s.totals.journal.length < 1792 ∧
          1792 ≤ s.totals.journal.length + s.sale.pushedByStart.length then 1 else 0)
    reports := [.warmStart cause (if cause = .softReset then none else s.hall.entryTime) s.time
      s.hall.mode s.sale.unsent.length s.sale.ordered.length] }
  queues : t.sale.queue = [] ∧ t.sale.contexts = []
  kept : t.sale.counter = s.sale.counter ∧ t.sale.timerSetting = s.sale.timerSetting ∧
    t.sale.deliveries = s.sale.deliveries ∧ t.sale.losses = s.sale.losses
  doubts : t.sale.doubts = s.sale.doubts.drop s.sale.pushedByStart.length ++
    s.sale.ordered.map fun c => { data := c.data, created := s.time, cause := .warmStart }
  credits : t.sale.credits =
    removeOrders (s.sale.pushedByStart.flatMap (·.data.riding))
      (returnOrders (s.sale.unsent.flatMap (·.data.riding)) s.sale.credits)
  memory : t.sale.memory = s.sale.memory.map fun r =>
    { r with
      inUse := if ∃ c ∈ s.sale.contexts, c.data.card = r.card then none else r.inUse
      doubt := if ∃ c ∈ s.sale.ordered, c.data.card = r.card then true
        else if ∃ e ∈ s.sale.pushedByStart, e.data.card = r.card then false else r.doubt }
  notes : t.sale.lastClosed =
    s.sale.pushedByStart.foldl
      (fun l e => stationSet l e.data.station (some ⟨e.data.sale, .unresolved⟩))
      (s.sale.unsent.foldl (fun l c => stationSet l c.data.station (some ⟨c.data.sale, .voided⟩))
        s.sale.lastClosed)
  journal : s.totals.journal <+: t.totals.journal ∧
    t.totals.journal.map (fun r => (r.time, r.body)) =
      s.totals.journal.map (fun r => (r.time, r.body)) ++
        s.sale.pushedByStart.map fun e => (s.time, e.data.record .unresolved)
  numbers : s.sale.pushedByStart = [] →
    t.totals.next = s.totals.next ∧ t.totals.exhausted = s.totals.exhausted
  totals : t.totals.period = s.totals.period ∧ t.totals.lastPeriod = s.totals.lastPeriod ∧
    t.totals.lastStamp = s.totals.lastStamp ∧ t.totals.daily = s.totals.daily ∧
    t.totals.closedDay = s.totals.closedDay ∧ t.totals.closedTime = s.totals.closedTime ∧
    t.totals.lastClose = s.totals.lastClose
  high : t.totals.high = (s.totals.high || decide (s.totals.journal.length < 1792 ∧
    1792 ≤ s.totals.journal.length + s.sale.pushedByStart.length))
  stations : ∀ st, t.station st = { s.station st with
    state := if (s.station st).state = .doubtful ∨ (s.station st).state = .dropped ∨
      (s.station st).state = .held then .good else (s.station st).state
    score := if (s.station st).state = .absent ∨ (s.station st).state = .pending then (s.station st).score
      else 0
    cleanCalls := if (s.station st).state = .absent ∨ (s.station st).state = .pending then
      (s.station st).cleanCalls else 0
    waits := if (s.station st).state = .absent ∨ (s.station st).state = .pending then (s.station st).waits
      else 0
    silent := if (s.station st).state = .pending then 0 else (s.station st).silent
    slot := none, busy := none, outstanding := none, lastRequest := none, leaveRequested := false
    contextFlag := if ∃ c ∈ s.sale.contexts, c.data.station = st then none
      else (s.station st).contextFlag }
  lanes : ∀ l, t.lane l = { s.lane l with
    exchange := none, position := some 0, waiting := none, inbox := []
    stations := (t.lane l).stations }
  hall : t.hall = { s.hall with startDue := none, inbox := [] }
  decoder : t.decoder = { s.decoder with inbox := [] }
  clock : t.clock = { s.clock with
    inbox := []
    stamp := ⟨s.clock.day, currentIndex s.clock.schedule s.clock.minute⟩
    kind := currentKind s.clock.schedule s.clock.minute }
  tariff : ∃ events : List BoundaryEvent,
    events = (if t.clock.stamp = s.clock.stamp then []
      else [⟨s.clock.stamp, t.clock.stamp, t.clock.kind, .warmStart, s.time⟩]) ∧
    t.tariff = { s.tariff with inbox := [], boundary := s.tariff.boundary ++ events } ∧
    t.totals.boundary = s.totals.boundary ++ events ∧ t.totals.inbox = []
  pending : t.pending = s.pending

/-! ### What a stopped part still takes -/

/-- The two takings of a boundary event, by which step 4 of a warm start ends (12 R196). -/
def takesEvent : Instr → Bool
  | .tariffBoundarySwap | .periodCounterCapture => true
  | _ => false

/-- The commands of the supplies, the RESET line, the starts and the crystal (12 R195). -/
def takenStopped : Instr → Bool
  | .mainSupplyLoss | .mainSupplyReturn | .backupFailure | .resetLineAssert | .resetLineRelease
  | .warmStart | .coldStart | .secondsCountAdvance | .minuteAdvance => true
  | _ => false

end Sys2Proof.Machine
end

