-- ==== Sys2Proof/Certificates/Slice0/Obligations.lean ====
section
/-! DEFINITION. The statements for the provers, each with the rule of spec/ it rests on. A statement that
answers an equation for `exec` says by it what the command changes and that it changes nothing else. -/

open Sys2Proof Sys2Proof.Machine

/-! ### The machine -/

/-- The command at the front of the queue runs on the state with the queue's rest; with none waiting the
part idles. The queue and the idle step are the model's choice (log entry 1). -/
def Obligations.StepRunsFrontCommand : Prop :=
  (∀ (c : Instr) (rest : List Instr) (s : State),
    step { s with pending := c :: rest } = exec c { s with pending := rest }) ∧
  ∀ s : State, s.pending = [] → step s = .next s

/-- Every command answers a next state: no step of the part stops it. That a command whose step cannot take
place still answers, and that the queue of waiting commands is as it was, is the model's choice (log entry
1). -/
def Obligations.CommandsAnswerAndKeepQueue : Prop :=
  ∀ (c : Instr) (s : State), ∃ t : State, exec c s = .next t ∧ t.pending = s.pending

/-- 12 R195: "Nothing else is taken in RETAIN", nor while the RESET line is held; nor, by the model's
choice (log entry 5), while a start that is due has not been performed. Only the supplies, the RESET
line, the starts and the crystal reach a part that stands still. 12 R196: until the Tariff Unit and the Journal
and Totals unit have both taken the boundary event of a warm start, those commands and the two takings alone are
taken (log entry 30). -/
def Obligations.StoppedPartTakesNothing : Prop :=
  ∀ s : State,
    (s.started = true ↔
      s.hall.power = .run ∧ s.hall.resetHeld = false ∧ s.hall.startDue = none) ∧
    (s.running = true ↔ s.started = true ∧ (∀ e ∈ s.tariff.boundary, e.cause ≠ .warmStart) ∧
      ∀ e ∈ s.totals.boundary, e.cause ≠ .warmStart) ∧
    ∀ c : Instr, takenStopped c = false →
      (s.started = false → exec c s = .next s) ∧
      (takesEvent c = false → s.running = false → exec c s = .next s)

/-- The values after a cold start (12 R188, R192, R197; 09 R145, R146; 04 R56; 02 R19, 08 R127, R136; 11
R176), and that they meet every law of Safety.lean. -/
def Obligations.ResetState : Prop :=
  let s := State.reset
  (s.hall.mode = .setup ∧ s.hall.hallId = none ∧ s.hall.power = .run) ∧
  (s.office.receiver = .hunting ∧ s.office.tags = [] ∧ s.office.refusals = [] ∧
    s.office.replies = [] ∧ s.office.reports = [] ∧ s.office.overflow = false ∧
    s.office.closing = none) ∧
  (∀ l, (s.lane l).mode = .off ∧ (s.lane l).settings = ⟨.auto, .first, 3, 200⟩ ∧
    (s.lane l).position = some 0 ∧ (s.lane l).rollPointer = 7 ∧ (s.lane l).exchange = none ∧
    (s.lane l).lineStuck = false) ∧
  (∀ st, s.station st = StationRecord.initial) ∧
  (s.sale.queue = [] ∧ s.sale.contexts = [] ∧ s.sale.counter = 1 ∧ s.sale.timerSetting = 20 ∧
    s.sale.memory = [] ∧ s.sale.doubts = [] ∧ s.sale.credits = [] ∧
    ∀ st, stationGet s.sale.lastClosed st = none) ∧
  (s.decoder.stop = [] ∧ s.decoder.defaultClass = none ∧ ∀ n, s.decoder.ranges.getN n = none) ∧
  (s.tariff.active.items = [] ∧ s.tariff.staging = .empty ∧ s.tariff.generation = 0 ∧
    ∀ g p, ((s.tariff.active.groups.get g).subsidy.get p = 0 ∧
      (s.tariff.active.groups.get g).allowance.get p = 0) ∧
      (s.tariff.active.groups.get g).dailyCap = 0 ∧ (s.tariff.active.groups.get g).overdraft = 0) ∧
  (s.clock.isSet = false ∧ s.clock.day = 0 ∧ s.clock.minute = 0 ∧ s.clock.second = 0 ∧
    s.clock.schedule = [⟨0, .meal⟩] ∧ s.clock.stamp = ⟨0, 0⟩ ∧ s.clock.kind = .meal) ∧
  (s.totals.journal = [] ∧ s.totals.next = 1 ∧ s.totals.exhausted = false ∧ s.totals.high = false ∧
    s.totals.lastStamp = none ∧ s.totals.closedTime = none ∧ s.totals.lastClose = none ∧
    ∀ st, ∀ k ∈ [stationGet s.totals.period st, stationGet s.totals.lastPeriod st,
      stationGet s.totals.daily st, stationGet s.totals.closedDay st],
      k = ⟨0, 0, 0, 0, 0, 0, 0, 0, 0⟩) ∧
  (s.office.Within ∧ s.TagsAccounted ∧ s.JournalLaw ∧ s.sale.OrdersRide ∧ s.sale.CardsHeld ∧
    s.QueueLaw ∧ s.FlagsAgree ∧ s.decoder.Ordered ∧ s.tariff.Within ∧ s.clock.Within ∧ s.PeriodCurrent ∧
    s.LanesWithin)

/-! ### The laws that every step keeps -/

/-- 12 R188, R189, R191: at most 8 outstanding tags, pairwise different, 8 refusals and 32 reports. -/
def Obligations.OfficeWithinKept : Prop :=
  ∀ s t : State, s.office.Within → step s = .next t → t.office.Within

/-- 12 R189, R196: while the part does not stand still, every outstanding host request is in exactly one
place, waiting for its block, answered and waiting for the line, or being sent: none is lost or answered twice.
04 R60, 09 R154, R155: the work queue holds at most 24 entries, at most one of each station, which is its
outstanding request, and at most 8 of the host. -/
def Obligations.TagsAccountedKept : Prop :=
  ∀ s t : State, s.office.Within → s.TagsAccounted → step s = .next t →
    t.TagsAccounted ∧ (s.QueueLaw → t.QueueLaw)

/-- 11 R178, R179, 04 R64: the journal's numbers run on without a gap, sale numbers in flight are
pairwise different, and every context and every doubt entry keeps a free journal record. -/
def Obligations.JournalLawKept : Prop :=
  ∀ s t : State, s.JournalLaw → step s = .next t → t.JournalLaw

/-- 06 R105: order ids stay unique, and an order is RIDING exactly when a sale in flight names it, on
that sale's number. -/
def Obligations.OrdersRideKept : Prop :=
  ∀ s t : State, s.JournalLaw → s.sale.OrdersRide → step s = .next t → t.sale.OrdersRide

/-- 04 R64, 05 R87, 07 R116, R118, R119: one context at a station, one sale in flight of a card, at most
64 doubt entries and 4,096 records, and the two flags of a record set exactly while they should be. -/
def Obligations.CardsHeldKept : Prop :=
  ∀ s t : State, s.JournalLaw → s.sale.CardsHeld → step s = .next t → t.sale.CardsHeld

/-- 09 R155: a station's context flag names a sale exactly while the Sale Engine holds that context. -/
def Obligations.FlagsAgreeKept : Prop :=
  ∀ s t : State, s.JournalLaw → s.sale.CardsHeld → s.FlagsAgree → step s = .next t → t.FlagsAgree

/-- 03 R43: the Stop List stays strictly ascending, with at most 512 numbers. -/
def Obligations.StopListKept : Prop :=
  ∀ s t : State, s.decoder.Ordered → step s = .next t → t.decoder.Ordered

/-- 02 R18, R19, 08 R136 to R141: both tariff sets stay within their limits and in code order. -/
def Obligations.TariffWithinKept : Prop :=
  ∀ s t : State, s.tariff.Within → step s = .next t → t.tariff.Within

/-- 08 R127 to R133: the clock and the schedule stay within their ranges, and unless the part stands still the
held stamp and kind are those of the held time. -/
def Obligations.ClockKept : Prop :=
  ∀ s t : State, s.clock.Within → s.PeriodCurrent → step s = .next t → t.clock.Within ∧ t.PeriodCurrent

/-- 09 R145, R146, R148, R149, R160, 10 R165, R166, R169: scores, counts and settings stay in their ranges, a
consecutive-wait count below the lane's wait limit, an OFF lane has every station ABSENT, an ABSENT or
PENDING station has no role and its counts at 0, and a DROPPED or HELD one stands at score 255. -/
def Obligations.LanesWithinKept : Prop :=
  ∀ s t : State, s.LanesWithin → step s = .next t → t.LanesWithin

/-! ### Frames and cards as bytes -/

/-- 13.2, 12 R188, 13 R199: a request frame laid out as 13.2 gives it, after any bytes that hold no start
marker and before any bytes, is collected whole and taken with the kind, tag and body it was made of; cut
anywhere after its start marker, its first part leaves the receiver INSIDE with the bytes collected, and the rest
completes it. That the bytes after it are no part of the command, so that the receiver stands HUNTING, is log
entry 8. -/
def Obligations.OfficeFrameRead : Prop :=
  ∀ (kind tag : Byte) (body before after : List Byte),
    kind.toNat < 64 → body.length ≤ 1024 → (165 : Byte) ∉ before →
    Receiver.collect .hunting (before ++ officeFrame kind tag body ++ after) =
      (.hunting, some ((officeFrame kind tag body).drop 1)) ∧
    takeFrame ((officeFrame kind tag body).drop 1) = some ⟨kind, tag, body⟩ ∧
    ∀ first last : List Byte, (officeFrame kind tag body).drop 1 = first ++ last → last ≠ [] →
      Receiver.collect .hunting (before ++ 165 :: first) = (.inside first, none) ∧
      (∀ part more, first = part ++ more →
        Receiver.collect (.inside part) more = (.inside first, none)) ∧
      Receiver.collect (.inside first) (last ++ after) =
        (.hunting, some ((officeFrame kind tag body).drop 1))

/-- 13.3, 10 R163, 13 R199: an answer laid out as 13.3 gives it is collected whole and read as the answer
it was made of, whatever it carries. That a card kind byte above 2 does not make it BAD_FORM is log entry
24. -/
def Obligations.LaneAnswerRead : Prop :=
  ∀ (a : Answer) (before after : List Byte),
    a.kind.body.length ≤ 255 → (195 : Byte) ∉ before →
    collectAnswer [] (before ++ a.frame ++ after) = (a.frame, true) ∧ readLaneFrame a.frame = .answer a

/-- 13.4: an identity block takes 8 bytes and a purse slot 16, and each is read from its bytes as it
was. -/
def Obligations.CardBlocksRead : Prop :=
  (∀ i : IdentityBlock, i.bytes.length = 8 ∧ IdentityBlock.ofBytes i.bytes = some i) ∧
  ∀ p : PurseSlot, p.bytes.length = 16 ∧ PurseSlot.ofBytes p.bytes = some p

/-! ### The office line -/

/-- 12 R188, R189, 13 R198: a request frame that passes the four tests, whether it arrives whole or completes
what the receiver has collected INSIDE, enters its tag and reaches its owning block; bytes that end inside a
frame change the receiver alone. A body whose every field R198 fixes is read by its bytes alone; another is read
as the operand says, held to the bytes as far as R198 fixes them (log entry 8). -/
def Obligations.FrameAdmitted : Prop :=
  ∀ (s : State) (kind tag : Byte) (body bytes before first last after : List Byte)
    (reading : Option HostRequest),
    s.running = true → body.length ≤ 1024 → (165 : Byte) ∉ before →
    (officeFrame kind tag body).drop 1 = first ++ last → last ≠ [] →
    (s.office.receiver = .hunting → bytes = before ++ 165 :: first →
      exec (.officeFrameReceived bytes reading) s =
        .next { s with office := { s.office with receiver := .inside first } }) ∧
    (∀ part more, first = part ++ more → s.office.receiver = .inside part → bytes = more →
      exec (.officeFrameReceived bytes reading) s =
        .next { s with office := { s.office with receiver := .inside first } }) ∧
    (s.office.receiver = .hunting ∧ bytes = before ++ officeFrame kind tag body ++ after ∨
        s.office.receiver = .inside first ∧ bytes = last ++ after →
      s.office.closing = none → tag ∉ s.office.tags.map (·.tag) → s.office.tags.length < 8 →
      ∀ (r : HostRequest) (o : Owner), r.kind = kind → (r.fixed = true ∨ reading = some r) →
        r.readFrom body = true → r.enumerated = true → r.owner = some o →
        exec (.officeFrameReceived bytes reading) s =
          .next ({ s with office := { s.office with
            receiver := .hunting
            tags := s.office.tags ++ [TagEntry.mk tag r.kind o] } }.hand o ⟨tag, r⟩))

/-- 12 R189, 13 R198, 08 R131: the first of the four tests that fails answers the frame at once, by a refusal
that joins the refusal queue; on a full queue the frame is discarded. Nothing else changes. A frame that can
be read only as a request for a Lane Controller that names no lane, or only as a TOTALS_READ whose station id
byte is outside 1 to 16 (log entry 20), or not at all, is refused so; so is a SET_PERIODS with a kind that is
neither MEAL nor CLOSED, naming its first offending entry (log entry 29). What a body can be read as is log
entry 8. -/
def Obligations.FrameRefusedAtOnce : Prop :=
  ∀ (s : State) (kind tag : Byte) (body : List Byte) (reading : Option HostRequest),
    s.running = true → s.office.receiver = .hunting → body.length ≤ 1024 → kind.toNat < 64 →
    let refusedWith (w : OutcomeWord) (entry : Option Nat) : Prop :=
      exec (.officeFrameReceived (officeFrame kind tag body) reading) s =
        .next (if s.office.refusals.length < 8 then
          { s with office := { s.office with
              refusals := s.office.refusals ++ [OfficeRefusal.mk tag kind w entry] } } else s)
    let reads (r : HostRequest) : Prop :=
      (r.fixed = true ∨ reading = some r) ∧ r.kind = kind ∧ r.readFrom body = true
    (s.office.closing ≠ none → refusedWith .hostBusy none) ∧
    (s.office.closing = none → tag ∈ s.office.tags.map (·.tag) → refusedWith .tagInUse none) ∧
    (s.office.closing = none → tag ∉ s.office.tags.map (·.tag) → 8 ≤ s.office.tags.length →
      refusedWith .hostBusy none) ∧
    (s.office.closing = none → tag ∉ s.office.tags.map (·.tag) → s.office.tags.length < 8 →
      ((∀ r, reads r → r.owner = none ∨ r = .totalsRead none) → refusedWith .badRequest none) ∧
      ∀ entries, reads (.setPeriods entries) → (∃ e ∈ entries, e.kind = none) →
        ∃ k, refusedWith .badRequest (some k) ∧ FirstIndex (PeriodOffends entries) k)

/-- 12 R188: a frame of reply or report kind, and a frame whose check is wrong, are discarded and change
nothing; after a length above 1,024 the hunt goes on from the byte after the second length byte. The
receiver's own steps: a start marker in HUNTING begins a frame, an over-limit length and a gap of more
than 20 ms end one. -/
def Obligations.FrameDiscarded : Prop :=
  (∀ s : State, s.running = true →
    (s.office.receiver = .hunting →
      exec .officeStartMarker s =
        .next { s with office := { s.office with receiver := .inside [] } }) ∧
    (∀ length : BitVec 16, 1024 < length.toNat → s.office.receiver = .inside [] →
      exec (.frameLengthOverLimit length) s =
        .next { s with office := { s.office with receiver := .hunting } }) ∧
    exec .officeByteGapTimeout s =
      .next { s with office := { s.office with receiver := .hunting } }) ∧
  ∀ (s : State) (kind tag : Byte) (body : List Byte) (reading : Option HostRequest),
    s.running = true → s.office.receiver = .hunting →
    (body.length ≤ 1024 → 64 ≤ kind.toNat →
      exec (.officeFrameReceived (officeFrame kind tag body) reading) s = .next s) ∧
    (∀ check : BitVec 16, body.length ≤ 1024 → check ≠ crc16 (officeInner kind tag body) →
      exec (.officeFrameReceived (165 :: officeInner kind tag body ++ be16 check) reading) s =
        .next s) ∧
    ∀ (length : BitVec 16) (bytes : List Byte), 1024 < length.toNat →
      exec (.officeFrameReceived (165 :: be16 length ++ bytes) reading) s =
        exec (.officeFrameReceived bytes reading) s

/-- 12 R190, R191: which frame the free line takes, a report carrying the overflow indication as it
stands. That a frame leaves its queue as its sending begins is log entry 6. -/
def Obligations.TransmitterPicks : Prop :=
  ∀ s : State, s.running = true → s.office.sending = none →
    (∀ f fs, s.office.refusals = f :: fs →
      (s.office.replies = [] ∨ s.office.lastWasRefusal = false) →
      exec .frameSendStart s = .next { s with office := { s.office with
        refusals := fs, sending := some ⟨.refusal f, false⟩ } }) ∧
    (∀ r rs, s.office.replies = r :: rs →
      (s.office.refusals = [] ∨ s.office.lastWasRefusal = true) →
      exec .frameSendStart s = .next { s with office := { s.office with
        replies := rs, sending := some ⟨.reply r, false⟩ } }) ∧
    (∀ p ps, s.office.refusals = [] → s.office.replies = [] → s.office.reports = p :: ps →
      exec .frameSendStart s = .next { s with office := { s.office with
        reports := ps, sending := some ⟨.report p s.office.overflow, false⟩ } })

/-- 12 R189, R191, R194: a reply sent in full frees its tag, and the OK reply of a SOFT_RESET or
CLEAR_ALL whose closing mark is set brings its start, as no other reply does; a report that carried the
overflow indication clears it unless a report was dropped meanwhile. That the start is left due for its own
command is log entry 5, and that what was sent last is noted at this point log entry 6. -/
def Obligations.FrameSent : Prop :=
  ∀ (s : State) (x : Sending), s.running = true → s.office.sending = some x →
    (∀ f, x.frame = .refusal f →
      exec .frameSentInFull s = .next { s with office := { s.office with
        sending := none, lastWasRefusal := true } }) ∧
    (∀ r, x.frame = .reply r →
      let due : Option DueStart :=
        match r.reply, s.office.closing with
        | .softResetTaken, some .softReset => some (.warm .softReset)
        | .clearAllTaken _, some .clearAll => some (.cold false)
        | _, _ => none
      exec .frameSentInFull s = .next { s with
        office := { s.office with
          sending := none, lastWasRefusal := false
          tags := s.office.tags.filter fun e => e.tag ≠ r.tag }
        hall := { s.hall with startDue := due } }) ∧
    (∀ p carried, x.frame = .report p carried →
      exec .frameSentInFull s = .next { s with office := { s.office with
        sending := none, lastWasRefusal := false
        overflow := if carried = true ∧ x.dropped = false then false else s.office.overflow } })

/-! ### Cards and pricing -/

/-- 01 R7: the table of the four relations of two sequences, by d = (a − b) mod 65536. -/
def Obligations.SequenceRelations : Prop :=
  ∀ a b : Seq,
    (seqNewer a b = true ↔ 1 ≤ (a - b).toNat ∧ (a - b).toNat ≤ 32767) ∧
    (seqOpposed a b = true ↔ (a - b).toNat = 32768) ∧
    (seqOlder a b = true ↔ 32769 ≤ (a - b).toNat) ∧
    (a = b ↔ (a - b).toNat = 0) ∧
    seqNewer (a + 1) a = true ∧ (0 : Seq) - 1 = 65535

/-- 01 R8, R11, R13, R16 and 05 R91: what the card shows after a write order. Written, its new slot is
current and the doubt resolves HAPPENED, now and after any later write of the other slot; not written,
or torn so that the target slot is not valid, the former slot is still current and the doubt resolves
NOT_HAPPENED. R16's rows of later writes over the target slot are left out. Of any card, R91's four tests in
order decide, by d = (Q − E) mod 65536. What a new slot holds is R13's to R15's, and a slot carries the mark of a
sale by R11. -/
def Obligations.WriteResolved : Prop :=
  (∀ (h : Nat) (image : CardImage) (slot : PurseSlot) (target : SlotIndex) (d : SaleData) (now : Stamp)
    (u v : Nat),
    h ≤ 63 → 1 ≤ d.sale → d.sale ≤ 65535 → selectSlot image = .current slot target →
    d.expected = slot.sequence + 1 → -5000 ≤ d.newBalance → d.newBalance ≤ 999999 →
    let new := fillSlot slot.sequence d.newBalance h d.sale now u v
    let written := image.withSlot target (some new)
    (selectSlot written = .current new target.other ∧
      doubtResult (some h) d written new.sequence = .happened) ∧
    (∀ p q, doubtResult (some h) d (written.withSlot target.other p) q = .happened) ∧
    doubtResult (some h) d image slot.sequence = .notHappened ∧
    ∀ p, validImage p = none →
      selectSlot (image.withSlot target p) = .current slot target ∧
      doubtResult (some h) d (image.withSlot target p) slot.sequence = .notHappened) ∧
  (∀ (hall : Option Nat) (d : SaleData) (image : CardImage) (q : Seq),
    let shown : Prop := ∃ p, (validImage image.slot0 = some p ∨ validImage image.slot1 = some p) ∧
      p.sequence = d.expected ∧ carriesMark p hall d.sale = true
    let k := (q - d.expected).toNat
    (shown → doubtResult hall d image q = .happened) ∧
    (¬ shown →
      (k ≤ 1 ∨ k = 65535 → doubtResult hall d image q = .notHappened) ∧
      (2 ≤ k → k ≤ 32768 → doubtResult hall d image q = .unresolvable) ∧
      (32769 ≤ k → k ≤ 65534 → doubtResult hall d image q = .stale))) ∧
  (∀ (q : Seq) (balance : Int) (h n : Nat) (now : Stamp) (u v : Nat), u ≤ 65535 → v ≤ 999999 →
    NewSlot q balance h n now u v (fillSlot q balance h n now u v)) ∧
  ∀ (p : PurseSlot) (hall : Option Nat) (n : Nat), carriesMark p hall n = true ↔
    hall = some p.writerHall.toNat ∧ p.writerSale.toNat = n ∧ n ≠ 0

/-- 02 R25: S = floor((G × s + 5,000) / 10,000), the nearest cent with halves up, never above G, G itself
at 10,000 basis points and 0 at 0; with the six rows of its table. -/
def Obligations.SubsidyRounding : Prop :=
  (∀ g s : Nat,
    subsidyOf g s = (g * s + 5000) / 10000 ∧
    10000 * subsidyOf g s ≤ g * s + 5000 ∧ g * s + 5000 < 10000 * (subsidyOf g s + 1) ∧
    (s ≤ 10000 → subsidyOf g s ≤ g) ∧ subsidyOf g 10000 = g ∧ subsidyOf g 0 = 0) ∧
  subsidyOf 835 2500 = 209 ∧ subsidyOf 835 5000 = 418 ∧ subsidyOf 1 5000 = 1 ∧
  subsidyOf 1 4999 = 0 ∧ subsidyOf 999999 10000 = 999999 ∧ subsidyOf 640 0 = 0

/-- 02 R23 to R31, R34, R35, R37: the whole of pricing on the purse path. A priced sale's gross is that of its
lines, its subsidy that of R25 on it, its allowance the smaller of the net and what remains, its charge the rest,
within the daily cap; its riding orders are those of R28's walk and its new balance lies between the overdraft
and 999,999. And the other way: a closed period, the first line that fails, a gross above 999,999, a charge past
the daily cap and a balance below the overdraft are each refused with the figure their rule gives, an empty
basket with no order chosen is answered with the card's figures, and whatever is left is priced so. A difference
below 0 counts as 0. -/
def Obligations.PricedSaleBalances : Prop :=
  ∀ (now : Consulted) (basket : List BasketLine) (i : PriceInput),
    let f := groupFigures now.active i.group
    let period := now.stamp.period
    let rate := f.subsidy.get (periodIndex period)
    let left : Nat :=
      if i.allowanceEnabled = true then f.allowance.get (periodIndex period) - i.u else 0
    let found (l : BasketLine) : Option PriceItem :=
      now.active.items.find? fun x => x.code = l.code.toNat
    let sold (l : BasketLine) : Prop := ∃ x, found l = some x ∧ x.mask.get (periodIndex period) = true
    let answered (r : StationReply) : Prop := priceSale now basket i = .answered r
    let settled (kind : SaleKind) (g s a c : Nat) : Prop :=
      ∃ riding : List CreditOrder, ChosenOrders i c riding ∧
        (i.balance + totalOf riding - c < -(f.overdraft : Int) →
          answered (.insufficient (i.balance + totalOf riding + f.overdraft))) ∧
        (-(f.overdraft : Int) ≤ i.balance + totalOf riding - c →
          priceSale now basket i = .priced
            { kind := kind
              figures := { g := g, s := s, a := a, c := c, k := totalOf riding }
              riding := riding
              newBalance := i.balance + totalOf riding - c })
    (rate ≤ 10000 → i.balance ≤ 999999 → ∀ p, priceSale now basket i = .priced p →
      (p.figures.g = p.figures.s + p.figures.a + p.figures.c ∧ 0 ≤ p.figures.s ∧ 0 ≤ p.figures.a ∧
        0 ≤ p.figures.c ∧ p.figures.c ≤ p.figures.g ∧ p.figures.g ≤ 999999) ∧
      (basket ≠ [] → ∃ g : Nat, grossOf now basket = .total g ∧ p.figures.g = g ∧
        p.figures.s = ((g * rate + 5000) / 10000 : Nat) ∧
        p.figures.a = min (g - ((g * rate + 5000) / 10000 : Nat) : Int) left) ∧
      p.figures.a ≤ left ∧
      (basket ≠ [] → f.dailyCap ≠ 0 → (i.d : Int) + p.figures.c ≤ f.dailyCap) ∧
      (p.figures.k = totalOf p.riding ∧ p.riding <+: i.orders ∧ p.riding.length ≤ 4 ∧
        ∀ o, i.orders[p.riding.length]? = some o → p.riding.length < 4 →
          999999 < i.balance + p.figures.k + o.amount - p.figures.c) ∧
      (p.newBalance = i.balance + p.figures.k - p.figures.c ∧ -(f.overdraft : Int) ≤ p.newBalance ∧
        p.newBalance ≤ 999999) ∧
      (basket ≠ [] → p.kind = .sale) ∧
      (basket = [] → p.kind = .credit ∧ p.riding ≠ [] ∧ p.figures.g = 0)) ∧
    (basket = [] →
      ((∀ o, i.orders.head? = some o → 999999 < i.balance + o.amount) →
        answered (.balance i.balance left i.d
          (if f.dailyCap = 0 then none else some (f.dailyCap - i.d)) f.overdraft)) ∧
      ∀ o, i.orders.head? = some o → i.balance + o.amount ≤ 999999 → settled .credit 0 0 0 0) ∧
    (basket ≠ [] → now.kind = .closed → answered (.closedPeriod period)) ∧
    (now.kind = .meal →
      (∀ before l after, basket = before ++ l :: after → (∀ x ∈ before, sold x) →
        (found l = none → answered (.itemUnknown (before.length + 1) l.code.toNat)) ∧
        ∀ x, found l = some x → x.mask.get (periodIndex period) = false →
          answered (.itemNotNow (before.length + 1) l.code.toNat period)) ∧
      (basket ≠ [] → (∀ x ∈ basket, sold x) →
        let gross := (basket.map fun l =>
          ((found l).map fun x => x.price * l.quantity.toNat).getD 0).sum
        let sub := (gross * rate + 5000) / 10000
        let allowed := min (gross - sub) left
        let charge := gross - sub - allowed
        (999999 < gross → answered (.basketTooLarge gross)) ∧
        (gross ≤ 999999 →
          (f.dailyCap ≠ 0 → f.dailyCap < i.d + charge → answered (.capReached (f.dailyCap - i.d))) ∧
          (f.dailyCap = 0 ∨ i.d + charge ≤ f.dailyCap → settled .sale gross sub allowed charge))))

/-! ### The Sale Engine -/

/-- 04 R57, R59, R61: while an event that has arrived is still to be taken, no request is taken; else the
engine takes the oldest HIGH entry, and with none HIGH the oldest. The completions of stations are HIGH. -/
def Obligations.EventsBeforeRequests : Prop :=
  ∀ s : State,
    (s.sale.deliveries ≠ [] ∨ s.sale.losses ≠ [] ∨
      (∃ c ∈ s.sale.contexts, c.state = .writeOrdered 0) → s.nextRequest = none) ∧
    (s.sale.deliveries = [] → s.sale.losses = [] →
      (∀ c ∈ s.sale.contexts, c.state ≠ .writeOrdered 0) →
      (∀ before w after, s.sale.queue = before ++ w :: after → w.high = true →
        (∀ x ∈ before, x.high = false) →
        s.nextRequest = some w ∧ withoutNext s.sale.queue = before ++ after) ∧
      (∀ w after, s.sale.queue = w :: after → (∀ x ∈ s.sale.queue, x.high = false) →
        s.nextRequest = some w ∧ withoutNext s.sale.queue = after)) ∧
    ∀ w : Work, w.high = true ↔ ∃ st number n,
      w = .station st number (.saleDone n) ∨ w = .station st number (.saleTorn n) ∨
        w = .station st number (.saleCancel n)

/-- 04 R65 to R67, 01 R4, R6, R8, R9, 02 R21, 03 R42: the refusals of steps 1 to 5, and of the basket's form
before them, for SALE_OPEN and for REVERSE: the first test that fails answers the request, and beyond the reply
nothing changes. The form names the first line that offends (line numbers: log entry 15), the identity check is
R4's three conditions, a slot image is valid by R6, and the current slot is chosen by R8's table. -/
def Obligations.EarlyRefusals : Prop :=
  (Presented.reversal.offence = none ∧ ∀ lines k, (Presented.basket lines).offence = some k ↔
    ∃ j, k = j + 1 ∧ FirstIndex (LineOffends lines) j) ∧
  (∀ (i : IdentityBlock) (day : Nat) (kind : CardKind), identityCheck i day = some kind ↔
    i.check = crc8 (i.bytes.take 7) ∧ i.issueDay.toNat ≤ day ∧
      (i.kind.toNat = 0 ∧ kind = .staff ∨ i.kind.toNat = 1 ∧ kind = .contractor ∨
        i.kind.toNat = 2 ∧ kind = .visitor)) ∧
  (∀ (x : Option PurseSlot) (p : PurseSlot), validImage x = some p ↔
    x = some p ∧ p.check = crc8 (p.bytes.take 15) ∧ -5000 ≤ p.balance.toInt ∧
      p.balance.toInt ≤ 999999 ∧ p.writerHall.toNat ≤ 63) ∧
  (∀ image : CardImage,
    (validImage image.slot0 = none → validImage image.slot1 = none →
      selectSlot image = .damaged .noValidSlot) ∧
    (∀ p, validImage image.slot0 = some p → validImage image.slot1 = none →
      selectSlot image = .current p .one) ∧
    (∀ q, validImage image.slot0 = none → validImage image.slot1 = some q →
      selectSlot image = .current q .zero) ∧
    ∀ p q, validImage image.slot0 = some p → validImage image.slot1 = some q →
      let d := (p.sequence - q.sequence).toNat
      (1 ≤ d → d ≤ 32767 → selectSlot image = .current p .one) ∧
      (32769 ≤ d → selectSlot image = .current q .zero) ∧
      (d = 32768 → selectSlot image = .damaged .opposed) ∧
      (d = 0 → p = q → selectSlot image = .current p .one) ∧
      (d = 0 → p ≠ q → selectSlot image = .damaged .conflict)) ∧
  ∀ (s : State) (i : Instr) (q : StationRequest) (p : Presented) (st : StationId) (n : Byte)
    (image : CardImage) (lines : List BasketLine),
    (i = .saleOpen ∧ q = .saleOpen image lines ∧ p = .basket lines ∨
      i = .reverse ∧ q = .reverse image ∧ p = .reversal) →
    s.running = true → s.nextRequest = some (.station st n q) →
    let card := image.identity.card.toNat
    let refusedWith (r : StationReply) : Prop := exec i s = .next (s.dequeued.giveReply st n r)
    (∀ k, p.offence = some k → refusedWith (.badRequest k)) ∧
    (p.offence = none →
      (s.hall.mode ≠ .serving → refusedWith .notServing) ∧
      (s.hall.mode = .serving →
        ((s.station st).state ≠ .good → (s.station st).state ≠ .doubtful → refusedWith .notServing) ∧
        ((s.station st).state = .good ∨ (s.station st).state = .doubtful →
          (p = .reversal → (s.station st).role ≠ some .supervisor → refusedWith .notPermitted) ∧
          ((p = .reversal → (s.station st).role = some .supervisor) →
            (∀ c, s.sale.contextOf st = some c → refusedWith (.stationBusy c.data.sale)) ∧
            (s.sale.contextOf st = none →
              (identityCheck image.identity s.clock.day = none →
                refusedWith (.cardDamaged .identity none)) ∧
              (identityCheck image.identity s.clock.day ≠ none →
                (s.decoder.decode card = .stopped → refusedWith (.cardStopped card)) ∧
                (s.decoder.decode card = .unknown → refusedWith (.cardUnknown card)) ∧
                ∀ g a e, s.decoder.decode card = .purse g a e →
                  (∀ why, selectSlot image = .damaged why →
                    refusedWith (.cardDamaged why (some card))) ∧
                  ∀ slot target, selectSlot image = .current slot target →
                    ∀ c, s.sale.contextOfCard card = some c →
                      refusedWith (.cardInUse c.data.station c.data.sale)))))))

/-- 04 R65, R68, R72, 05 R91 to R96, 07 R119 to R121, 02 R22, R34, R38, 06 R111, R112: steps 6 to 10 for a
card that passed the first five, for SALE_OPEN and for REVERSE. Step 6 finds and updates or creates the
record, or refuses a stale card by R120's table with its report. Step 7 ends a doubt entry by what the card
shows (WriteResolved): its journal record, orders, record of the card, note, counters and reports. From there
steps 8 to 10 answer: a full journal, a failed stage, the first of a REVERSE's preconditions 2 to 5 that fails (04 R71, 07 R124), an
enquiry, or a write order. That an
UNSET hall writes mark 0 is log entry 17, and the free count of a JOURNAL_HIGH log entry 27. -/
def Obligations.LaterStepsAnswer : Prop :=
  ∀ (s : State) (i : Instr) (q : StationRequest) (p : Presented) (st : StationId) (n : Byte)
    (image : CardImage) (lines : List BasketLine) (kind : CardKind) (g entry : Nat) (allowance : Bool)
    (slot : PurseSlot) (target : SlotIndex),
    let card := image.identity.card.toNat
    (i = .saleOpen ∧ q = .saleOpen image lines ∧ p = .basket lines ∨
      i = .reverse ∧ q = .reverse image ∧ p = .reversal) →
    s.running = true → s.nextRequest = some (.station st n q) → p.offence = none →
    s.hall.mode = .serving → ((s.station st).state = .good ∨ (s.station st).state = .doubtful) →
    (p = .reversal → (s.station st).role = some .supervisor) → s.sale.contextOf st = none →
    identityCheck image.identity s.clock.day = some kind →
    s.decoder.decode card = .purse g allowance entry → selectSlot image = .current slot target →
    s.sale.contextOfCard card = none →
    let q := slot.sequence
    let answers (t : State) : Prop := exec i s = .next t
    (∀ r : CardRecord,
      (seqNewer q r.seq = true → staleReason r slot = none) ∧
      (q = r.seq → slot.money = r.balance → staleReason r slot = none) ∧
      (q = r.seq → slot.money ≠ r.balance → staleReason r slot = some .conflict) ∧
      (seqOlder q r.seq = true → staleReason r slot = some .older) ∧
      (seqOpposed q r.seq = true → staleReason r slot = some .opposed) ∧
      (staleReason r slot ≠ none → meetRecord r slot s.time = { r with lastSeen := s.time })) ∧
    (∀ r why, findCard s.sale.memory card = some r → staleReason r slot = some why →
      answers ((((s.dequeued.mapCard card fun x => meetRecord x slot s.time).queueReport
        (.staleMemory card st why q slot.money r.seq r.balance r.writer)).giveReply st n
          (.staleMemory why card q r.seq)))) ∧
    ((∀ r, findCard s.sale.memory card = some r → staleReason r slot = none) →
      ∃ met : State, MeetsCard s.dequeued card slot met ∧
        (s.sale.doubtOfCard card = none →
          LaterSteps met st n card g allowance kind slot target p answers) ∧
        ∀ e, s.sale.doubtOfCard card = some e →
          (doubtResult s.hall.hallId e.data image q = .stale →
            answers ((met.queueReport
              (.staleDoubt card q e.data.expected e.data.sale)).giveReply st n
                (.staleDoubt card q e.data.expected))) ∧
          ∀ outcome, (doubtResult s.hall.hallId e.data image q = .happened ∧
                outcome = .committedLate ∨
              doubtResult s.hall.hallId e.data image q = .notHappened ∧
                outcome = .voidedAfterDoubt ∨
              doubtResult s.hall.hallId e.data image q = .unresolvable ∧ outcome = .unresolved) →
            ∃ u : State, EndsDoubt met e outcome (.card st q) u ∧
              LaterSteps u st n card g allowance kind slot target p answers)

/-- 04 R64, R65, R69, 01 R12, R13, R15, 02 R30, 06 R110, 07 R119, R120, 09 R155: a SALE_OPEN that passes every
step and is priced opens one context under the counter's first free number, its new slot filled by R13, rides the chosen orders, sets the record's in-use flag and the station's
context flag, and gives the station its WRITE_ORDER. Nothing else changes, the card's record as step 6
leaves it apart. That an UNSET hall writes mark 0 is log entry 17. -/
def Obligations.SaleOpenOrdersWrite : Prop :=
  (∀ (p : PurseSlot) (now : Stamp),
    CountersTaken p now (takenAllowance p now) (takenSpend p now)) ∧
  (∀ e : SaleEngine, 1 ≤ e.counter → e.counter ≤ 65535 → e.heldNumbers.length ≤ 80 →
    let n := e.assignedNumber
    1 ≤ n ∧ n ≤ 65535 ∧ n ∉ e.heldNumbers ∧
      ∀ m, 1 ≤ m → m ≤ 65535 → m ∉ e.heldNumbers →
        (n + 65535 - e.counter) % 65535 ≤ (m + 65535 - e.counter) % 65535) ∧
  ∀ (s : State) (st : StationId) (n : Byte) (image : CardImage) (lines : List BasketLine)
    (kind : CardKind) (g entry : Nat) (allowance : Bool) (slot : PurseSlot) (target : SlotIndex)
    (sale : Priced),
    let card := image.identity.card.toNat
    s.running = true → s.nextRequest = some (.station st n (.saleOpen image lines)) →
    offendingLine 1 lines = none → s.hall.mode = .serving →
    ((s.station st).state = .good ∨ (s.station st).state = .doubtful) →
    s.sale.contextOf st = none → identityCheck image.identity s.clock.day = some kind →
    s.decoder.decode card = .purse g allowance entry → selectSlot image = .current slot target →
    s.sale.contextOfCard card = none →
    (∀ r, findCard s.sale.memory card = some r → staleReason r slot = none) →
    s.sale.doubtOfCard card = none →
    s.sale.contexts.length + s.sale.doubts.length < s.totals.free →
    priceSale s.consult lines (s.priceInput card g allowance slot) = .priced sale →
    (s.station st).outstanding = some ⟨n, false⟩ →
    ∃ (met t : State) (c : Context), MeetsCard s.dequeued card slot met ∧
      exec .saleOpen s = .next t ∧ OpensContext met st n card slot target sale none t c ∧
      c.data.cardKind = kind ∧
      t.station st = { s.station st with
        contextFlag := some c.data.sale
        slot := some ⟨n, .writeOrder (c.order s.sale.timerSetting), false⟩ }

/-- 02 R38, R39, 01 R14, R15, 04 R71, 07 R124: a REVERSE that passes every step and its preconditions opens
a context of kind REVERSAL with the negatives of the last sale's figures, naming the reversed sale's
journal number, its new slot filled by R14. Nothing else changes, the card's record as step 6 leaves it apart. -/
def Obligations.ReverseOrdersWrite : Prop :=
  ∀ (s : State) (st : StationId) (n : Byte) (image : CardImage) (kind : CardKind) (g entry : Nat)
    (allowance : Bool) (slot : PurseSlot) (target : SlotIndex) (r : CardRecord) (l : LastSale),
    let card := image.identity.card.toNat
    s.running = true → s.nextRequest = some (.station st n (.reverse image)) →
    s.hall.mode = .serving →
    ((s.station st).state = .good ∨ (s.station st).state = .doubtful) →
    (s.station st).role = some .supervisor →
    s.sale.contextOf st = none → identityCheck image.identity s.clock.day = some kind →
    s.decoder.decode card = .purse g allowance entry → selectSlot image = .current slot target →
    s.sale.contextOfCard card = none →
    findCard s.sale.memory card = some r → staleReason r slot = none → s.sale.doubtOfCard card = none →
    s.sale.contexts.length + s.sale.doubts.length < s.totals.free →
    r.lastSale = some l → l.kind = .sale → l.reversed = false → slot.sequence = l.seqAfter →
    carriesMark slot s.hall.hallId l.sale = true → l.stamp = s.clock.stamp →
    slot.money + l.c ≤ 999999 →
    (s.station st).outstanding = some ⟨n, false⟩ →
    ∃ (met t : State) (c : Context), MeetsCard s.dequeued card slot met ∧
      exec .reverse s = .next t ∧
      OpensContext met st n card slot target
        { kind := .reversal
          figures := { g := -(l.a + l.c), s := 0, a := -l.a, c := -l.c, k := 0 }
          riding := [], newBalance := slot.money + l.c } (some l.journal) t c ∧
      c.data.cardKind = kind ∧
      t.station st = { s.station st with
        contextFlag := some c.data.sale
        slot := some ⟨n, .writeOrder (c.order s.sale.timerSetting), false⟩ }

/-- 04 R68, R70, 02 R23, R24, R36 to R38, 11 R177, R182, R183: a card of a cash-only class. On a full journal
it is refused JOURNAL_FULL, and its REVERSE NOT_REVERSIBLE by the first precondition. A basket is priced
through stages 1 to 4 and refused as a sale's is; priced, a non-empty one leaves one CASH record, counted,
and an empty one none; the station is told the figures. The free count of a JOURNAL_HIGH is log entry 27. -/
def Obligations.CashSaleJournalled : Prop :=
  ∀ (s : State) (i : Instr) (q : StationRequest) (p : Presented) (st : StationId) (n : Byte)
    (image : CardImage) (lines : List BasketLine) (kind : CardKind) (g : Nat) (entry : Option Nat),
    let card := image.identity.card.toNat
    (i = .saleOpen ∧ q = .saleOpen image lines ∧ p = .basket lines ∨
      i = .reverse ∧ q = .reverse image ∧ p = .reversal) →
    s.running = true → s.nextRequest = some (.station st n q) → p.offence = none →
    s.hall.mode = .serving → ((s.station st).state = .good ∨ (s.station st).state = .doubtful) →
    (p = .reversal → (s.station st).role = some .supervisor) → s.sale.contextOf st = none →
    identityCheck image.identity s.clock.day = some kind →
    s.decoder.decode card = .cashOnly g entry →
    let refusedWith (r : StationReply) : Prop := exec i s = .next (s.dequeued.giveReply st n r)
    let period := s.clock.stamp.period
    let found (l : BasketLine) : Option PriceItem :=
      s.tariff.active.items.find? fun x => x.code = l.code.toNat
    let sold (l : BasketLine) : Prop := ∃ x, found l = some x ∧ x.mask.get (periodIndex period) = true
    (s.totals.free ≤ s.sale.contexts.length + s.sale.doubts.length →
      refusedWith (.journalFull s.totals.free)) ∧
    (s.sale.contexts.length + s.sale.doubts.length < s.totals.free →
      (p = .reversal → refusedWith (.notReversible 1)) ∧
      (p = .basket lines →
        (lines = [] → refusedWith (.cashOnly 0 0 0)) ∧
        (lines ≠ [] → s.clock.kind = .closed → refusedWith (.closedPeriod period)) ∧
        (s.clock.kind = .meal →
          (∀ before l after, lines = before ++ l :: after → (∀ x ∈ before, sold x) →
            (found l = none → refusedWith (.itemUnknown (before.length + 1) l.code.toNat)) ∧
            (∀ x, found l = some x → x.mask.get (periodIndex period) = false →
              refusedWith (.itemNotNow (before.length + 1) l.code.toNat period))) ∧
          (lines ≠ [] → (∀ x ∈ lines, sold x) →
            let gross := (lines.map fun l =>
              ((found l).map fun x => x.price * l.quantity.toNat).getD 0).sum
            let sub := subsidyOf gross
              ((groupFigures s.tariff.active g).subsidy.get (periodIndex period))
            let charge := gross - sub
            (999999 < gross → refusedWith (.basketTooLarge gross)) ∧
            (gross ≤ 999999 → ∃ (t : State) (j : JournalRecord), exec i s = .next t ∧
              t.totals.journal = s.totals.journal ++ [j] ∧
              (j.number = s.totals.next ∧ j.time = s.time ∧ j.body.kind = .cash ∧
                j.body.outcome = .committed ∧ j.body.station = st ∧ j.body.card = card ∧
                j.body.cardKind = kind ∧ j.body.sale = 0 ∧ j.body.stamp = s.clock.stamp ∧
                j.body.generation = s.tariff.generation ∧ j.body.g = gross ∧ j.body.s = sub ∧
                j.body.a = 0 ∧ j.body.c = charge ∧ j.body.creditTotal = 0 ∧
                j.body.creditIds = [] ∧ j.body.balanceAfter = none ∧
                j.body.sequenceAfter = none ∧ j.body.reversed = none) ∧
              t.totals = s.totalsAfter j.body ∧
              t.office = s.office.reported (s.highReports j.body) ∧
              (let k := stationGet s.totals.period st
               stationGet t.totals.period st =
                { k with cashCount := satAdd k.cashCount 1, cashSum := satAdd k.cashSum charge }) ∧
              (let k := stationGet s.totals.daily st
               stationGet t.totals.daily st =
                { k with cashCount := satAdd k.cashCount 1, cashSum := satAdd k.cashSum charge }) ∧
              (∀ other, other ≠ st →
                stationGet t.totals.period other = stationGet s.totals.period other ∧
                stationGet t.totals.daily other = stationGet s.totals.daily other ∧
                t.station other = s.station other) ∧
              t.station st = (s.station st).takeReply n (.cashOnly gross sub charge) ∧
              s.LanesKept t ∧ t.sale = s.dequeued.sale ∧ t.hall = s.hall ∧
              t.decoder = s.decoder ∧ t.tariff = s.tariff ∧ t.clock = s.clock ∧
              t.pending = s.pending)))))

/-- 04 R76 to R78, 05 R92, R95, R98, 06 R111, 07 R122, R123, 09 R158, 11 R182, R183: what a SALE_DONE does
against a context, a doubt entry, a last-closed note or nothing. A commit leaves one COMMITTED record and a
late one a COMMITTED_LATE record, with R177's fields, each counted by R183; the card's record takes the commit
by R122, the late one by R123; the riding orders leave the Credit List, with CREDIT_DELIVERED; a late one queues
DOUBT_CLOSED; a station that asked to leave becomes LEAVING. The free count of a JOURNAL_HIGH is log entry 27,
and that an UNSET hall writes mark 0 log entry 17. -/
def Obligations.SaleDoneCommits : Prop :=
  (∀ (d : SaleData) (o : RecordOutcome), RecordOf d o (d.record o)) ∧
  (∀ (k : Counters) (b : RecordBody), Counted k b (k.count b)) ∧
  ∀ (s : State) (st : StationId) (number : Byte) (n : BitVec 16),
    s.running = true → s.nextRequest = some (.station st number (.saleDone n)) →
    ((s.station st).state = .pending →
      exec .saleDone s = .next (s.dequeued.giveReply st number .notServing)) ∧
    ((s.station st).state ≠ .pending →
      (∀ c k, s.sale.found st n.toNat = .context c → c.state = .writeOrdered k →
        ∃ t : State, exec .saleDone s =
            .next (t.giveReply st number (.doneOk n.toNat s.totals.next c.data.newBalance)) ∧
          IsCommit s.dequeued c t ∧
          t.totals.journal = s.totals.journal ++
            [{ number := s.totals.next, time := s.time, body := c.data.record .committed }] ∧
          stationGet t.sale.lastClosed st = some ⟨n.toNat, .committed⟩ ∧
          (t.station st).contextFlag = none ∧
          t.totals.period = stationSet s.totals.period st
            ((stationGet s.totals.period st).count (c.data.record .committed)) ∧
          t.totals.daily = stationSet s.totals.daily st
            ((stationGet s.totals.daily st).count (c.data.record .committed)) ∧
          ∀ r, findCard s.sale.memory c.data.card = some r →
            findCard t.sale.memory c.data.card = some { r with
              seq := c.data.expected, balance := c.data.newBalance
              writer := ⟨s.hall.hallId.getD 0, c.data.sale⟩
              lastSale := some (c.data.lastPart s.totals.next)
              inUse := none, lastSeen := s.time }) ∧
      (∀ c, s.sale.found st n.toNat = .context c → c.state = .pricedUnsent →
        exec .saleDone s = .next (s.dequeued.giveReply st number (.wrongState n.toNat))) ∧
      (∀ e, s.sale.found st n.toNat = .doubt e →
        ∃ t : State, exec .saleDone s =
            .next (t.giveReply st number (.late .happened s.totals.next)) ∧
          EndsDoubt s.dequeued e .committedLate .lateDone t ∧
          t.totals.journal = s.totals.journal ++
            [{ number := s.totals.next, time := s.time, body := e.data.record .committedLate }] ∧
          stationGet t.sale.lastClosed st = some ⟨n.toNat, .committedLate⟩ ∧
          ∀ r, findCard s.sale.memory e.data.card = some r →
            let newer : Bool := seqNewer e.data.expected r.seq
            findCard t.sale.memory e.data.card = some { r with
              seq := if newer then e.data.expected else r.seq
              balance := if newer then e.data.newBalance else r.balance
              writer := if newer then ⟨s.hall.hallId.getD 0, e.data.sale⟩ else r.writer
              lastSale := some (e.data.lastPart s.totals.next)
              doubt := false, lastSeen := s.time }) ∧
      (∀ how, s.sale.found st n.toNat = .closed how →
        exec .saleDone s = .next (s.dequeued.giveReply st number (.alreadyClosed how))) ∧
      (s.sale.found st n.toNat = .nothing →
        exec .saleDone s = .next (s.dequeued.giveReply st number .noSuchSale)))

/-- 04 R79, R81, R82, 05 R89, R90, 09 R158: what a SALE_TORN does: a WRITE_ORDERED context moves to the
Doubt List with cause TORN and DOUBT_RAISED, a PRICED_UNSENT one is voided, a doubt entry stays. The free
count of a JOURNAL_HIGH is log entry 27. -/
def Obligations.SaleTornMoves : Prop :=
  ∀ (s : State) (st : StationId) (number : Byte) (n : BitVec 16),
    s.running = true → s.nextRequest = some (.station st number (.saleTorn n)) → s.sale.Numbered →
    ((s.station st).state = .pending →
      exec .saleTorn s = .next (s.dequeued.giveReply st number .notServing)) ∧
    ((s.station st).state ≠ .pending →
      (∀ c k, s.sale.found st n.toNat = .context c → c.state = .writeOrdered k →
        ∃ t : State, exec .saleTorn s = .next (t.giveReply st number (.saleOk n.toNat)) ∧
          IsMoveToDoubt s.dequeued c .torn t) ∧
      (∀ c, s.sale.found st n.toNat = .context c → c.state = .pricedUnsent →
        ∃ t : State, exec .saleTorn s = .next (t.giveReply st number (.saleOk n.toNat)) ∧
          IsVoid s.dequeued c t) ∧
      (∀ e, s.sale.found st n.toNat = .doubt e →
        exec .saleTorn s = .next (s.dequeued.giveReply st number (.saleOk n.toNat))) ∧
      (∀ how, s.sale.found st n.toNat = .closed how →
        exec .saleTorn s = .next (s.dequeued.giveReply st number (.alreadyClosed how))) ∧
      (s.sale.found st n.toNat = .nothing →
        exec .saleTorn s = .next (s.dequeued.giveReply st number .noSuchSale)))

/-- 04 R80, R81, 05 R93, R95, R98, 06 R112, 09 R158: what a SALE_CANCEL does: a context is voided with no
journal record, and a doubt entry ends NOT_HAPPENED with a VOIDED_AFTER_DOUBT record, its orders PENDING
again, and DOUBT_CLOSED. The free count of a JOURNAL_HIGH is log entry 27. -/
def Obligations.SaleCancelVoids : Prop :=
  ∀ (s : State) (st : StationId) (number : Byte) (n : BitVec 16),
    s.running = true → s.nextRequest = some (.station st number (.saleCancel n)) →
    ((s.station st).state = .pending →
      exec .saleCancel s = .next (s.dequeued.giveReply st number .notServing)) ∧
    ((s.station st).state ≠ .pending →
      (∀ c, s.sale.found st n.toNat = .context c →
        ∃ t : State, exec .saleCancel s = .next (t.giveReply st number (.saleOk n.toNat)) ∧
          IsVoid s.dequeued c t) ∧
      (∀ e, s.sale.found st n.toNat = .doubt e →
        ∃ t : State, exec .saleCancel s =
            .next (t.giveReply st number (.late .notHappened s.totals.next)) ∧
          EndsDoubt s.dequeued e .voidedAfterDoubt .lateCancel t ∧
          t.totals.journal = s.totals.journal ++
            [{ number := s.totals.next, time := s.time, body := e.data.record .voidedAfterDoubt }] ∧
          stationGet t.sale.lastClosed st = some ⟨n.toNat, .voidedAfterDoubt⟩) ∧
      (∀ how, s.sale.found st n.toNat = .closed how →
        exec .saleCancel s = .next (s.dequeued.giveReply st number (.alreadyClosed how))) ∧
      (s.sale.found st n.toNat = .nothing →
        exec .saleCancel s = .next (s.dequeued.giveReply st number .noSuchSale)))

/-- 04 R73 to R75, R82, R83, 05 R89, 09 R158: the engine's events. A delivery event starts the write timer of
a PRICED_UNSENT context; an expiry moves its context to doubt with cause TIMER; a loss event acts by the
table of R83; each move queues DOUBT_RAISED. WRITE_TIMER_SET takes 5 to 60 seconds, clamping what lies
outside. The free count of a JOURNAL_HIGH is log entry 27. -/
def Obligations.EngineEvents : Prop :=
  ∀ s : State, s.running = true →
    (∀ d rest, s.sale.deliveries = d :: rest →
      exec .deliveryEvent s = .next { s with sale := { s.sale with
        deliveries := rest
        contexts := s.sale.contexts.map fun c =>
          if c.data.station = d.station ∧ c.data.sale = d.sale ∧ c.state = .pricedUnsent then
            { c with state := .writeOrdered s.sale.timerSetting }
          else c } }) ∧
    (s.sale.Numbered → ∀ c ∈ s.sale.contexts, c.state = .writeOrdered 0 →
      ∃ t : State, exec (.writeTimerExpiry c.data.sale) s = .next t ∧ IsMoveToDoubt s c .timer t) ∧
    (s.sale.Numbered → ∀ l rest, s.sale.losses = l :: rest →
      let u := { s with sale := { s.sale with losses := rest } }
      (s.sale.contextOf l.station = none → exec .lossEvent s = .next u) ∧
      ∀ c, s.sale.contextOf l.station = some c →
        (c.state = .pricedUnsent → ∃ t : State, exec .lossEvent s = .next t ∧ IsVoid u c t) ∧
        (c.state ≠ .pricedUnsent → l.cause = .dropped → exec .lossEvent s = .next u) ∧
        (c.state ≠ .pricedUnsent → l.cause ≠ .dropped →
          ∃ t : State, exec .lossEvent s = .next t ∧ IsMoveToDoubt u c .stationLost t)) ∧
    ∀ tag n, s.nextRequest = some (.host ⟨tag, .writeTimerSet n⟩) →
      ∃ k, exec .writeTimerSet s =
          .next ({ s with sale := { s.sale with
            queue := withoutNext s.sale.queue, timerSetting := k } }.reply ⟨tag, .writeTimerSet n⟩
            (.timerSet k s.sale.timerSetting)) ∧
        (n < 5 → k = 5) ∧ (5 ≤ n → n ≤ 60 → k = n) ∧ (60 < n → k = 60)

/-- 06 R106 to R108: a CREDIT_ORDER that passes its three tests joins the newest end in state PENDING; a
CANCEL_CREDIT removes a PENDING order from its place; the refusals change nothing. That an amount is never
negative is log entry 8. -/
def Obligations.CreditOrdersPlaced : Prop :=
  ∀ (s : State) (tag : Byte), s.running = true →
    (∀ id card amount, s.nextRequest = some (.host ⟨tag, .creditOrder id card amount⟩) →
      let answer (r : HostReply) : State := s.dequeued.reply ⟨tag, .creditOrder id card amount⟩ r
      (amount < 1 ∨ 100000 < amount → exec .creditOrder s = .next (answer (.badAmount amount))) ∧
      (1 ≤ amount → amount ≤ 100000 →
        (∀ i o, s.sale.credits[i]? = some o → o.id = id →
          (∀ j x, s.sale.credits[j]? = some x → j < i → x.id ≠ id) →
          exec .creditOrder s =
            .next (answer (.duplicateOrder o.card o.amount o.state (i + 1)))) ∧
        ((∀ o ∈ s.sale.credits, o.id ≠ id) →
          (1024 ≤ s.sale.credits.length →
            exec .creditOrder s = .next (answer (.creditsFull s.sale.credits.length))) ∧
          (s.sale.credits.length < 1024 →
            exec .creditOrder s =
              .next ({ s with sale := { s.sale with
                queue := withoutNext s.sale.queue
                credits := s.sale.credits ++ [CreditOrder.mk id card amount .pending] } }.reply
                ⟨tag, .creditOrder id card amount⟩
                (.orderPlaced (s.sale.credits.length + 1) (s.sale.credits.length + 1))))))) ∧
    (∀ id, s.nextRequest = some (.host ⟨tag, .cancelCredit id⟩) →
      let answer (r : HostReply) : State := s.dequeued.reply ⟨tag, .cancelCredit id⟩ r
      ((∀ o ∈ s.sale.credits, o.id ≠ id) → exec .cancelCredit s = .next (answer .noSuchOrder)) ∧
      (∀ before o after, s.sale.credits = before ++ o :: after → o.id = id →
        (∀ x ∈ before ++ after, x.id ≠ id) →
        (∀ n, o.state = .riding n →
          exec .cancelCredit s = .next (answer (.orderRiding o.card o.amount n))) ∧
        (o.state = .pending →
          exec .cancelCredit s =
            .next ({ s with sale := { s.sale with
              queue := withoutNext s.sale.queue, credits := before ++ after } }.reply
              ⟨tag, .cancelCredit id⟩
              (.orderCancelled o.card o.amount (before.length + 1) (before ++ after).length)))))

/-- 05 R94, R95, R100, 06 R113: a DOUBT_DISMISS ends the entry of that card and sale number UNRESOLVED:
one record, not counted in the totals, its orders out of the list, the doubt flag clear, the note set,
DOUBT_CLOSED queued. It refuses a sale number of 0, and an entry it does not find. The free count of a
JOURNAL_HIGH is log entry 27. -/
def Obligations.DoubtDismissed : Prop :=
  ∀ (s : State) (tag : Byte) (card n : Nat),
    s.running = true → s.nextRequest = some (.host ⟨tag, .doubtDismiss card n⟩) →
    (n = 0 → exec .doubtDismiss s = .next (s.dequeued.reply ⟨tag, .doubtDismiss card n⟩ .badRequest)) ∧
    (n ≠ 0 →
      ((∀ e ∈ s.sale.doubts, ¬ (e.data.card = card ∧ e.data.sale = n)) →
        exec .doubtDismiss s =
          .next (s.dequeued.reply ⟨tag, .doubtDismiss card n⟩ .noSuchSale)) ∧
      (s.sale.Numbered → ∀ e ∈ s.sale.doubts, e.data.card = card → e.data.sale = n →
        ∃ t : State, exec .doubtDismiss s = .next (t.reply ⟨tag, .doubtDismiss card n⟩
            (.dismissed s.totals.next (namedOrders e.data.riding s.sale.credits))) ∧
          EndsDoubt s.dequeued e .unresolved .dismiss t ∧
          t.totals.journal = s.totals.journal ++
            [{ number := s.totals.next, time := s.time, body := e.data.record .unresolved }]))

/-! ### Requests that change nothing -/

/-- 03 R52, 04 R85, 05 R101, 06 R109, 07 R125, 08 R132, R143, 09 R161, 11 R180, R185, 12 R193: a request
that reads is answered with what its rule names, and changes nothing but the place where it waited. A
position out of its range is refused BAD_REQUEST, a LANE_READ waits for the end of an exchange, and STATUS gives
each block's part of R193. That
STATUS, and QUERY_CARD's class, are read in one step as one snapshot is the model's choice (log entry
18). -/
def Obligations.ReadRequestsOnlyAnswer : Prop :=
  ∀ (s : State) (tag : Byte) (rest : List Handed), s.running = true →
    (∀ p, s.decoder.inbox = ⟨tag, .stopList p⟩ :: rest →
      exec .stopList s = .next ({ s with decoder := { s.decoder with inbox := rest } }.reply
        ⟨tag, .stopList p⟩ (if 511 < p then .badRequest
          else .stopPage s.decoder.stop.length ((s.decoder.stop.drop p).take 32)))) ∧
    (s.decoder.inbox = ⟨tag, .rangeList⟩ :: rest →
      exec .rangeList s = .next ({ s with decoder := { s.decoder with inbox := rest } }.reply
        ⟨tag, .rangeList⟩ (.ranges s.decoder.ranges s.decoder.defaultClass))) ∧
    (∀ p, s.nextRequest = some (.host ⟨tag, .queryCredits p⟩) →
      exec .queryCredits s = .next (s.dequeued.reply ⟨tag, .queryCredits p⟩
        (if 1023 < p then .badRequest
          else .creditsPage s.sale.credits.length (((placeOrders 1 s.sale.credits).drop p).take 32)))) ∧
    (∀ card, s.nextRequest = some (.host ⟨tag, .queryCard card⟩) →
      let orders := (placeOrders 1 s.sale.credits).filter fun x => x.order.card = card
      exec .queryCard s = .next (s.dequeued.reply ⟨tag, .queryCard card⟩
        (.card (findCard s.sale.memory card)
          ((s.sale.contextOfCard card).map fun c =>
            ⟨c.data.station, c.data.sale, c.data.kind, c.state.name⟩)
          (s.sale.doubtOfCard card) orders.length (orders.take 32) (s.decoder.decode card)))) ∧
    (∀ p, s.nextRequest = some (.host ⟨tag, .doubtList p⟩) →
      exec .doubtList s = .next (s.dequeued.reply ⟨tag, .doubtList p⟩
        (if 63 < p then .badRequest
          else .doubtsPage s.sale.doubts.length ((s.sale.doubts.drop p).take 8)))) ∧
    (s.nextRequest = some (.host ⟨tag, .saleList⟩) →
      exec .saleList s = .next (s.dequeued.reply ⟨tag, .saleList⟩
        (.sales s.dequeued.sale.highCount s.dequeued.sale.normalCount s.sale.counter
          s.sale.timerSetting (s.sale.contexts.map Context.reading)))) ∧
    (∀ which p, s.tariff.inbox = ⟨tag, .tariffList which p⟩ :: rest →
      let set : Option TariffSet := match which with
        | .active => some s.tariff.active
        | .staged => s.tariff.staging.set?
      let items := (set.map (·.items)).getD []
      exec .tariffList s = .next ({ s with tariff := { s.tariff with inbox := rest } }.reply
        ⟨tag, .tariffList which p⟩ (if 1023 < p then .badRequest
          else .tariffPage s.tariff.staging.name s.tariff.generation items.length
            ((items.drop p).take 40) (set.map TariffSet.groups)))) ∧
    (s.clock.inbox = ⟨tag, .clockRead⟩ :: rest →
      exec .clockRead s = .next ({ s with clock := { s.clock with inbox := rest } }.reply
        ⟨tag, .clockRead⟩ (.clock s.clock.isSet s.clock.day s.clock.minute s.clock.second
          s.clock.schedule s.clock.stamp s.clock.kind))) ∧
    (∀ l ref, (s.lane l).inbox = ⟨tag, .laneRead ref⟩ :: rest →
      ((s.lane l).exchange ≠ none → exec (.laneRead l) s = .next s) ∧
      ((s.lane l).exchange = none →
        exec (.laneRead l) s = .next ((s.setLane l { s.lane l with inbox := rest }).reply
          ⟨tag, .laneRead ref⟩ (.lane (s.lane l).mode (s.lane l).settings (s.lane l).rollPointer
            (s.lane l).lineStuck ((s.lane l).stations.map StationRecord.reading))))) ∧
    (s.totals.inbox = ⟨tag, .journalFetch⟩ :: rest →
      exec .journalFetch s = .next ({ s with totals := { s.totals with inbox := rest } }.reply
        ⟨tag, .journalFetch⟩ (.journalPage s.totals.journal.length s.totals.oldest s.totals.newest
          s.totals.free (s.totals.journal.take 8)))) ∧
    (∀ ref, s.totals.inbox = ⟨tag, .totalsRead ref⟩ :: rest →
      exec .totalsRead s = .next ({ s with totals := { s.totals with inbox := rest } }.reply
        ⟨tag, .totalsRead ref⟩ (match ref with
          | none => .badRequest
          | some st => .totals (stationGet s.totals.period st) (stationGet s.totals.lastPeriod st)
            (stationGet s.totals.daily st) (stationGet s.totals.closedDay st) s.totals.lastStamp
            s.clock.stamp s.totals.closedTime s.totals.lastClose))) ∧
    (s.hall.inbox = ⟨tag, .status⟩ :: rest →
      let data : StatusData :=
        { mode := s.hall.mode, hallId := s.hall.hallId, power := .run
          clockSet := s.clock.isSet, day := s.clock.day, minute := s.clock.minute
          stamp := s.clock.stamp, kind := s.clock.kind
          generation := s.tariff.generation
          staging := match s.tariff.staging with
            | .empty => .empty
            | .filling _ => .filling
            | .ready _ => .ready
          activeItems := s.tariff.active.items.length
          stagedItems := match s.tariff.staging with
            | .empty => 0
            | .filling set | .ready set => set.items.length
          queueHigh := (s.sale.queue.filter fun w => w.high = true).length
          queueNormal := (s.sale.queue.filter fun w => w.high = false).length
          openContexts := s.sale.contexts.length, doubts := s.sale.doubts.length
          cardRecords := s.sale.memory.length, orders := s.sale.credits.length
          ridingOrders := (s.sale.credits.filter fun o => o.state ≠ .pending).length
          stopCount := s.decoder.stop.length
          rangeCount :=
            ((List.finRange 16).filter fun n => (s.decoder.ranges.getN n).isSome).length
          recordsHeld := s.totals.journal.length
          oldest := s.totals.journal.head?.map (·.number)
          newest := s.totals.journal.getLast?.map (·.number)
          free := min (2048 - s.totals.journal.length)
            (if s.totals.exhausted = true then 0 else 4294967296 - s.totals.next)
          highFired := s.totals.high
          laneA := ⟨s.laneA.mode, s.laneA.lineStuck,
            s.laneA.stations.map fun r => (r.state, r.role)⟩
          laneB := ⟨s.laneB.mode, s.laneB.lineStuck,
            s.laneB.stations.map fun r => (r.state, r.role)⟩
          outstandingTags := s.office.tags.map TagEntry.tag
          reports := s.office.reports.length, overflow := s.office.overflow }
      exec .status s = .next ({ s with hall := { s.hall with inbox := rest } }.reply ⟨tag, .status⟩
        (.status data)))

/-! ### The Card Class Decoder -/

/-- 03 R43, R46: STOP_ADD takes its 1 to 16 numbers in order; each joins in its ascending place unless it
is there already or the list is full. Another count of numbers is refused. -/
def Obligations.StopAddTakes : Prop :=
  ∀ (s : State) (tag : Byte) (cards : List Nat) (rest : List Handed),
    s.running = true → s.decoder.inbox = ⟨tag, .stopAdd cards⟩ :: rest → s.decoder.Ordered →
    (cards = [] ∨ 16 < cards.length →
      exec .stopAdd s = .next ({ s with decoder := { s.decoder with inbox := rest } }.reply
        ⟨tag, .stopAdd cards⟩ .badRequest)) ∧
    (cards ≠ [] → cards.length ≤ 16 →
      ∃ (stop : List Nat) (results : List StopResult),
        exec .stopAdd s = .next ({ s with decoder := { s.decoder with
          inbox := rest, stop := stop } }.reply ⟨tag, .stopAdd cards⟩
            (.stopResults results stop.length)) ∧
        stop.Pairwise (· < ·) ∧ stop.length ≤ 512 ∧ results.length = cards.length ∧
        (∀ n ∈ s.decoder.stop, n ∈ stop) ∧ (∀ n ∈ stop, n ∈ s.decoder.stop ∨ n ∈ cards) ∧
        (∀ n ∈ cards, n ∉ stop → stop.length = 512) ∧
        ∀ i n, cards[i]? = some n →
          (results[i]? = some .added ↔ n ∈ stop ∧ n ∉ s.decoder.stop ∧ n ∉ cards.take i) ∧
          (results[i]? = some .already ↔ n ∈ stop ∧ (n ∈ s.decoder.stop ∨ n ∈ cards.take i)) ∧
          (results[i]? = some .full ↔ n ∉ stop) ∧
          ∀ j, j < i → results[j]? = some .full → results[i]? ≠ some .added)

/-- 03 R47: STOP_REMOVE takes its 1 to 16 numbers in order; each that is there leaves, and is answered
REMOVED once. -/
def Obligations.StopRemoveTakes : Prop :=
  ∀ (s : State) (tag : Byte) (cards : List Nat) (rest : List Handed),
    s.running = true → s.decoder.inbox = ⟨tag, .stopRemove cards⟩ :: rest → s.decoder.Ordered →
    (cards = [] ∨ 16 < cards.length →
      exec .stopRemove s = .next ({ s with decoder := { s.decoder with inbox := rest } }.reply
        ⟨tag, .stopRemove cards⟩ .badRequest)) ∧
    (cards ≠ [] → cards.length ≤ 16 →
      ∃ (results : List StopResult),
        let stop := s.decoder.stop.filter (fun n => n ∉ cards)
        exec .stopRemove s = .next ({ s with decoder := { s.decoder with
          inbox := rest, stop := stop } }.reply ⟨tag, .stopRemove cards⟩
            (.stopResults results stop.length)) ∧
        results.length = cards.length ∧
        ∀ i n, cards[i]? = some n →
          results[i]? = some (if n ∈ s.decoder.stop ∧ n ∉ cards.take i then .removed else .absent))

/-- 03 R48: STOP_CLEAR empties the Stop List, answers the count removed, and touches neither the range
table nor the default class. -/
def Obligations.StopClearEmpties : Prop :=
  ∀ (s : State) (tag : Byte) (rest : List Handed),
    s.running = true → s.decoder.inbox = ⟨tag, .stopClear⟩ :: rest →
    ∃ d : Decoder, exec .stopClear s = .next ({ s with decoder := d }.reply ⟨tag, .stopClear⟩
        (.stopCleared s.decoder.stop.length)) ∧
      d.stop = [] ∧ d.ranges = s.decoder.ranges ∧ d.defaultClass = s.decoder.defaultClass ∧
      d.inbox = rest

/-- 03 R49 to R51: RANGE_SET, RANGE_CLEAR and RANGE_DEFAULT write the one place they name, answer what it
held, and refuse an entry above 15, a group above 7 and a range whose first exceeds its last. -/
def Obligations.RangeRequests : Prop :=
  ∀ (s : State) (tag : Byte) (rest : List Handed), s.running = true →
    (∀ n first last group purse allowance,
      s.decoder.inbox = ⟨tag, .rangeSet n first last group purse allowance⟩ :: rest →
      (15 < n ∨ last < first ∨ 7 < group →
        exec .rangeSet s = .next ({ s with decoder := { s.decoder with inbox := rest } }.reply
          ⟨tag, .rangeSet n first last group purse allowance⟩ .badRequest)) ∧
      ∀ k : Fin 16, k.val = n → first ≤ last → group ≤ 7 →
        ∃ d : Decoder, exec .rangeSet s = .next ({ s with decoder := d }.reply
            ⟨tag, .rangeSet n first last group purse allowance⟩
            (.formerRange (s.decoder.ranges.getN k))) ∧
          d.ranges.getN k = some ⟨first, last, group, purse, allowance⟩ ∧
          (∀ j, j ≠ k → d.ranges.getN j = s.decoder.ranges.getN j) ∧
          d.stop = s.decoder.stop ∧ d.defaultClass = s.decoder.defaultClass ∧ d.inbox = rest) ∧
    (∀ n, s.decoder.inbox = ⟨tag, .rangeClear n⟩ :: rest →
      (15 < n → exec .rangeClear s = .next ({ s with decoder := { s.decoder with
        inbox := rest } }.reply ⟨tag, .rangeClear n⟩ .badRequest)) ∧
      ∀ k : Fin 16, k.val = n →
        ∃ d : Decoder, exec .rangeClear s = .next ({ s with decoder := d }.reply
            ⟨tag, .rangeClear n⟩ (.formerRange (s.decoder.ranges.getN k))) ∧
          d.ranges.getN k = none ∧ (∀ j, j ≠ k → d.ranges.getN j = s.decoder.ranges.getN j) ∧
          d.stop = s.decoder.stop ∧ d.defaultClass = s.decoder.defaultClass ∧ d.inbox = rest) ∧
    (∀ g, s.decoder.inbox = ⟨tag, .rangeDefault g⟩ :: rest →
      exec .rangeDefault s = .next (if (∃ k ∈ g, 7 < k) then
        { s with decoder := { s.decoder with inbox := rest } }.reply ⟨tag, .rangeDefault g⟩ .badRequest
      else { s with decoder := { s.decoder with inbox := rest, defaultClass := g } }.reply
        ⟨tag, .rangeDefault g⟩ (.formerDefault s.decoder.defaultClass)))

/-- 03 R41, R44, R45, R52: CLASS_QUERY answers the decode of its card: STOPPED for a listed number; else
what the lowest entry covering it says; else the default class, or UNKNOWN. -/
def Obligations.ClassQueryDecodes : Prop :=
  ∀ (s : State) (tag : Byte) (card : Nat) (rest : List Handed),
    s.running = true → s.decoder.inbox = ⟨tag, .classQuery card⟩ :: rest →
    ∃ result : ClassResult,
      exec .classQuery s = .next ({ s with decoder := { s.decoder with inbox := rest } }.reply
        ⟨tag, .classQuery card⟩ (.classResult result)) ∧
      (card ∈ s.decoder.stop → result = .stopped) ∧
      (card ∉ s.decoder.stop →
        (∀ (k : Fin 16) (r : CardRange), s.decoder.ranges.getN k = some r →
          r.first ≤ card → card ≤ r.last →
          (∀ j : Fin 16, j < k → ∀ x, s.decoder.ranges.getN j = some x →
            ¬ (x.first ≤ card ∧ card ≤ x.last)) →
          result = if r.purse then .purse r.group r.allowance k.val
            else .cashOnly r.group (some k.val)) ∧
        ((∀ (k : Fin 16) (r : CardRange), s.decoder.ranges.getN k = some r →
            ¬ (r.first ≤ card ∧ card ≤ r.last)) →
          result = match s.decoder.defaultClass with
            | none => .unknown
            | some g => .cashOnly g none))

/-! ### The Tariff Unit and the Hall Clock -/

/-- 08 R137 to R140: TARIFF_BEGIN starts a staged set with no items and the active groups; TARIFF_ITEMS
merges well-formed items by code; TARIFF_GROUP clamps; TARIFF_END makes READY a set of the count the
host expects. Outside FILLING the last three are refused WRONG_STATE, with no field where the rule names none (log
entry 25). A refusal names the first offending item, and the reply to TARIFF_ITEMS the number that replaced
staged ones (log entry 15). -/
def Obligations.TariffStaging : Prop :=
  ∀ (s : State) (tag : Byte) (rest : List Handed), s.running = true →
    (s.tariff.inbox = ⟨tag, .tariffBegin⟩ :: rest →
      exec .tariffBegin s = .next ({ s with tariff := { s.tariff with
        inbox := rest, staging := .filling ⟨[], s.tariff.active.groups⟩ } }.reply ⟨tag, .tariffBegin⟩
          (.stagingBegun s.tariff.staging.name s.tariff.staging.items.length))) ∧
    (∀ items, s.tariff.inbox = ⟨tag, .tariffItems items⟩ :: rest →
      let answer (r : HostReply) : State :=
        { s with tariff := { s.tariff with inbox := rest } }.reply ⟨tag, .tariffItems items⟩ r
      (items = [] → exec .tariffItems s = .next (answer (.badItem none))) ∧
      (40 < items.length ∨ (∃ i ∈ items, itemOk i = false) →
        ∃ i, FirstIndex (ItemOffends items) i ∧
          exec .tariffItems s = .next (answer (.badItem (some (i + 1))))) ∧
      (items ≠ [] → items.length ≤ 40 → (∀ i ∈ items, itemOk i = true) →
        (∀ set, s.tariff.staging ≠ .filling set) →
        exec .tariffItems s = .next (answer (.wrongStaging s.tariff.staging.name))) ∧
      ∀ set, s.tariff.staging = .filling set → (set.items.map (·.code)).Pairwise (· < ·) →
        items ≠ [] → items.length ≤ 40 → (∀ i ∈ items, itemOk i = true) →
        ∃ merged : List PriceItem, (merged.map (·.code)).Pairwise (· < ·) ∧
          (∀ code i, merged.find? (fun x => x.code = code) = some i ↔
            (items.reverse.find? (fun x => x.code = code)).or
              (set.items.find? fun x => x.code = code) = some i) ∧
          (1024 < merged.length →
            exec .tariffItems s = .next (answer (.stagedFull set.items.length))) ∧
          (merged.length ≤ 1024 →
            let replaced :=
              (items.filter fun i => set.items.any fun x => decide (x.code = i.code)).length
            exec .tariffItems s = .next ({ s with tariff := { s.tariff with
              inbox := rest, staging := .filling { set with items := merged } } }.reply
                ⟨tag, .tariffItems items⟩ (.itemsTaken replaced merged.length)))) ∧
    (∀ g f, s.tariff.inbox = ⟨tag, .tariffGroup g f⟩ :: rest →
      let answer (r : HostReply) : State :=
        { s with tariff := { s.tariff with inbox := rest } }.reply ⟨tag, .tariffGroup g f⟩ r
      (7 < g → exec .tariffGroup s = .next (answer .badRequest)) ∧
      (g ≤ 7 → (∀ set, s.tariff.staging ≠ .filling set) →
        exec .tariffGroup s = .next (answer .notFilling)) ∧
      ∀ (k : Fin 8) (set : TariffSet), k.val = g → s.tariff.staging = .filling set →
        ∃ (staged : TariffSet) (taken : GroupFigures),
          exec .tariffGroup s = .next ({ s with tariff := { s.tariff with
            inbox := rest, staging := .filling staged } }.reply ⟨tag, .tariffGroup g f⟩
              (.groupTaken taken)) ∧
          staged.items = set.items ∧ staged.groups.get k = taken ∧
          (∀ j, j ≠ k → staged.groups.get j = set.groups.get j) ∧
          (∀ p, taken.subsidy.get p = min (f.subsidy.get p) 10000 ∧
            taken.allowance.get p = min (f.allowance.get p) 5000) ∧
          taken.dailyCap = min f.dailyCap 100000 ∧ taken.overdraft = min f.overdraft 5000) ∧
    (∀ n, s.tariff.inbox = ⟨tag, .tariffEnd n⟩ :: rest →
      let answer (r : HostReply) : State :=
        { s with tariff := { s.tariff with inbox := rest } }.reply ⟨tag, .tariffEnd n⟩ r
      ((∀ set, s.tariff.staging ≠ .filling set) →
        exec .tariffEnd s = .next (answer .notFilling)) ∧
      ∀ set, s.tariff.staging = .filling set →
        (n ≠ set.items.length → exec .tariffEnd s = .next (answer (.countMismatch set.items.length))) ∧
        (n = set.items.length →
          exec .tariffEnd s = .next ({ s with tariff := { s.tariff with
            inbox := rest, staging := .ready set } }.reply ⟨tag, .tariffEnd n⟩ (.stagingReady n))))

/-- 08 R134, R141: a swap makes the READY set active, the staging state EMPTY and the generation the
next, with its report; TARIFF_SWAP_NOW is refused in another state, and a boundary event then changes
nothing. The queue of events at the unit is log entry 4; that of a warm start is taken before anything else (12
R196, log entry 30). -/
def Obligations.TariffSwap : Prop :=
  ∀ s : State,
    let next := if s.tariff.generation = 65535 then 1 else s.tariff.generation + 1
    s.tariff.generation ≤ 65535 →
    (∀ tag rest set, s.running = true → s.tariff.inbox = ⟨tag, .tariffSwapNow⟩ :: rest →
      s.tariff.staging = .ready set →
      exec .tariffSwapNow s = .next (({ s with tariff := { s.tariff with
        inbox := rest, active := set, staging := .empty, generation := next } }.queueReport
          (.tariffSwapped s.tariff.generation next set.items.length .host s.time)).reply
          ⟨tag, .tariffSwapNow⟩ (.swapped next))) ∧
    (∀ tag rest, s.running = true → s.tariff.inbox = ⟨tag, .tariffSwapNow⟩ :: rest →
      (∀ set, s.tariff.staging ≠ .ready set) →
      exec .tariffSwapNow s = .next ({ s with tariff := { s.tariff with inbox := rest } }.reply
        ⟨tag, .tariffSwapNow⟩ (.notReady s.tariff.staging.name))) ∧
    (∀ e events set, s.started = true → s.tariff.boundary = e :: events →
      s.tariff.staging = .ready set →
      exec .tariffBoundarySwap s = .next ({ s with tariff := { s.tariff with
        boundary := events, active := set, staging := .empty, generation := next } }.queueReport
          (.tariffSwapped s.tariff.generation next set.items.length .boundary s.time))) ∧
    (∀ e events, s.started = true → s.tariff.boundary = e :: events →
      (∀ set, s.tariff.staging ≠ .ready set) →
      exec .tariffBoundarySwap s = .next { s with tariff := { s.tariff with boundary := events } })

/-- 08 R128, R133, 04 R74, 12 R195: a second below 59 counts up and runs the write timers; the second after
59 advances the minute, at 1439 the day, which stands at 65535, and recomputes the period unless the part
stands still. A changed stamp is one boundary event for the Tariff Unit and one for the Journal and Totals unit. In
RETAIN, under a held RESET line and, by the model's choice (log entry 5), before a start that is due, the
clock counts without recomputing and the timers stand. An unset clock stands. -/
def Obligations.ClockCounts : Prop :=
  ∀ s : State,
    let ticked := { s with sale := { s.sale with
      contexts := s.sale.contexts.map fun c : Context => match c.state with
        | .pricedUnsent => c
        | .writeOrdered k => { c with state := .writeOrdered (k - 1) } } }
    (s.clock.isSet = true → s.clock.second < 59 →
      exec .secondsCountAdvance s = .next { (if s.started = true then ticked else s) with
        clock := { s.clock with second := s.clock.second + 1 } }) ∧
    (s.clock.isSet = true → s.clock.second = 59 → s.clock.minute ≤ 1439 → s.clock.day ≤ 65535 →
      let day := if s.clock.minute = 1439 ∧ s.clock.day < 65535 then s.clock.day + 1 else s.clock.day
      let minute := if s.clock.minute = 1439 then 0 else s.clock.minute + 1
      let stamp : Stamp := ⟨day, currentIndex s.clock.schedule minute⟩
      let kind := currentKind s.clock.schedule minute
      let cause : BoundaryCause := if day = s.clock.day then .minute else .day
      let events : List BoundaryEvent :=
        if stamp = s.clock.stamp then [] else [⟨s.clock.stamp, stamp, kind, cause, ⟨day, minute⟩⟩]
      (s.started = true → exec .minuteAdvance s = .next { ticked with
        clock := { s.clock with
          day := day, minute := minute, second := 0, stamp := stamp, kind := kind }
        tariff := { s.tariff with boundary := s.tariff.boundary ++ events }
        totals := { s.totals with boundary := s.totals.boundary ++ events } }) ∧
      (s.started = false → exec .minuteAdvance s = .next { s with
        clock := { s.clock with day := day, minute := minute, second := 0 } })) ∧
    (s.clock.isSet = false →
      exec .secondsCountAdvance s = .next (if s.started = true then ticked else s) ∧
      exec .minuteAdvance s = .next s)

/-- 08 R129 to R131, R133: the current index is that of the last entry started, or of the last entry where none
has, and the current kind is that entry's. SET_CLOCK refuses a minute above 1439 and then an earlier day, and SET_PERIODS a
schedule that is empty, longer than 8, out of range or not rising, naming the first offending entry (log
entry 15); taken, each recomputes the period and answers whether a boundary event was raised. -/
def Obligations.ClockRequests : Prop :=
  (∀ (schedule : List PeriodEntry) (m : Nat),
    (∀ i e, schedule[i]? = some e → e.start ≤ m →
      (∀ j x, i < j → schedule[j]? = some x → m < x.start) →
      currentIndex schedule m = i ∧ currentKind schedule m = e.kind) ∧
    ∀ e, schedule.getLast? = some e → (∀ x ∈ schedule, m < x.start) →
      currentIndex schedule m = schedule.length - 1 ∧ currentKind schedule m = e.kind) ∧
  ∀ (s : State) (tag : Byte) (rest : List Handed), s.running = true →
    let recomputedBy (c : HallClock) (cause : BoundaryCause) : State :=
      let stamp : Stamp := ⟨c.day, currentIndex c.schedule c.minute⟩
      let kind := currentKind c.schedule c.minute
      let events : List BoundaryEvent :=
        if stamp = s.clock.stamp then []
        else [⟨s.clock.stamp, stamp, kind, cause, ⟨c.day, c.minute⟩⟩]
      { s with
        clock := { c with inbox := rest, stamp := stamp, kind := kind }
        tariff := { s.tariff with boundary := s.tariff.boundary ++ events }
        totals := { s.totals with boundary := s.totals.boundary ++ events } }
    (∀ day minute, s.clock.inbox = ⟨tag, .setClock day minute⟩ :: rest →
      let answer (r : HostReply) : State :=
        { s with clock := { s.clock with inbox := rest } }.reply ⟨tag, .setClock day minute⟩ r
      (1439 < minute → exec .setClock s = .next (answer (.badMinute minute))) ∧
      (minute ≤ 1439 → day < s.clock.day →
        exec .setClock s = .next (answer (.clockBackward s.clock.day s.clock.minute))) ∧
      (minute ≤ 1439 → s.clock.day ≤ day →
        let u := recomputedBy { s.clock with
          isSet := true, day := day, minute := minute, second := 0 } .setClock
        exec .setClock s = .next (u.reply ⟨tag, .setClock day minute⟩
          (.clockSet s.clock.day s.clock.minute day minute u.clock.stamp u.clock.kind
            (decide (u.clock.stamp ≠ s.clock.stamp)))))) ∧
    (∀ asked, s.clock.inbox = ⟨tag, .setPeriods asked⟩ :: rest →
      let answer (r : HostReply) : State :=
        { s with clock := { s.clock with inbox := rest } }.reply ⟨tag, .setPeriods asked⟩ r
      (asked = [] → exec .setPeriods s = .next (answer (.badPeriods none))) ∧
      ((∃ i, PeriodOffends asked i) → ∃ k, FirstIndex (PeriodOffends asked) k ∧
        exec .setPeriods s = .next (answer (.badPeriods (some k))))) ∧
    ∀ entries : List PeriodEntry, let asked := entries.map PeriodEntry.asked
      s.clock.inbox = ⟨tag, .setPeriods asked⟩ :: rest →
      (8 < entries.length ∨ (∃ e ∈ entries, 1439 < e.start) ∨
          ¬ (entries.map (·.start)).Pairwise (· < ·) → ∃ i, PeriodOffends asked i) ∧
      (entries ≠ [] → entries.length ≤ 8 → (∀ e ∈ entries, e.start ≤ 1439) →
        (entries.map (·.start)).Pairwise (· < ·) →
        let u := recomputedBy { s.clock with schedule := entries } .setPeriods
        exec .setPeriods s = .next (u.reply ⟨tag, .setPeriods asked⟩
          (.periodsSet s.clock.schedule u.clock.stamp u.clock.kind
            (decide (u.clock.stamp ≠ s.clock.stamp)))))

/-! ### The Journal and Totals unit -/

/-- 11 R181, R182: JOURNAL_RELEASE removes the records numbered up to n, from the oldest through n, and
arms the mark again below 1,536; a number not held is refused. -/
def Obligations.JournalReleased : Prop :=
  ∀ (s : State) (tag : Byte) (n : Nat) (rest : List Handed),
    s.running = true → s.totals.inbox = ⟨tag, .journalRelease n⟩ :: rest → s.totals.Consecutive →
    ((∀ r ∈ s.totals.journal, r.number ≠ n) →
      exec .journalRelease s = .next ({ s with totals := { s.totals with inbox := rest } }.reply
        ⟨tag, .journalRelease n⟩ .badRequest)) ∧
    ∀ (before : List JournalRecord) (r : JournalRecord) (after : List JournalRecord),
      s.totals.journal = before ++ r :: after → r.number = n →
      ∃ j : JournalTotals,
        exec .journalRelease s = .next ({ s with totals := j }.reply ⟨tag, .journalRelease n⟩
          (.journalReleased (before.length + 1) (after.head?.map JournalRecord.number) j.free)) ∧
        j = { s.totals with
          inbox := rest, journal := after
          high := if after.length < 1536 then false else s.totals.high } ∧
        (s.totals.exhausted = false → s.totals.next + 2048 ≤ 4294967296 →
          j.free = s.totals.free + (before.length + 1))

/-- 11 R184, R186: DAY_CLOSE moves the day totals to the closed-day copies and answers them with their
hall sums; the capture of a boundary event moves the period counters to the last-period copies, with the
event's former stamp, and queues PERIOD_CHANGED with their hall sums, each the sum over the sixteen stations,
saturating (R183). The queue of events at the unit is log entry 4; that of a warm start is taken before anything
else (R187, 12 R196, log entry 30). -/
def Obligations.TotalsClosed : Prop :=
  (∀ t : Sixteen Counters,
    let summed (f : Counters → Nat) : Nat := min (t.toList.map f).sum 4294967295
    hallSums t = ⟨summed (·.sales), summed (·.charged), summed (·.subsidy), summed (·.allowance),
      summed (·.credits), summed (·.reversals), summed (·.reversalSum), summed (·.cashCount),
      summed (·.cashSum)⟩) ∧
  ∀ s : State,
    (∀ tag rest, s.running = true → s.totals.inbox = ⟨tag, .dayClose⟩ :: rest →
      ∃ j : JournalTotals,
        exec .dayClose s = .next ({ s with totals := j }.reply ⟨tag, .dayClose⟩
          (.dayClosed s.totals.daily (hallSums s.totals.daily) s.sale.doubts.length s.totals.lastClose
            s.time)) ∧
        (∀ st, stationGet j.closedDay st = stationGet s.totals.daily st ∧
          stationGet j.daily st = Counters.zero) ∧
        j.closedTime = some s.time ∧ j.lastClose = some s.time ∧ j.inbox = rest ∧
        j.period = s.totals.period ∧ j.lastPeriod = s.totals.lastPeriod ∧
        j.lastStamp = s.totals.lastStamp ∧ j.journal = s.totals.journal ∧ j.next = s.totals.next ∧
        j.exhausted = s.totals.exhausted ∧ j.high = s.totals.high ∧ j.boundary = s.totals.boundary) ∧
    (∀ e events, s.started = true → s.totals.boundary = e :: events →
      ∃ j : JournalTotals,
        exec .periodCounterCapture s = .next ({ s with totals := j }.queueReport
          (.periodChanged e (hallSums s.totals.period))) ∧
        (∀ st, stationGet j.lastPeriod st = stationGet s.totals.period st ∧
          stationGet j.period st = Counters.zero) ∧
        j.lastStamp = some e.former ∧ j.boundary = events ∧ j.daily = s.totals.daily ∧
        j.closedDay = s.totals.closedDay ∧ j.closedTime = s.totals.closedTime ∧
        j.lastClose = s.totals.lastClose ∧ j.journal = s.totals.journal ∧ j.next = s.totals.next ∧
        j.exhausted = s.totals.exhausted ∧ j.high = s.totals.high ∧ j.inbox = s.totals.inbox)

/-! ### Hall Control -/

/-- 12 R192: the table of SET_HALL, OPEN_HALL, SUSPEND and RESUME in the three hall modes. -/
def Obligations.HallModes : Prop :=
  ∀ (s : State) (tag : Byte) (rest : List Handed), s.running = true →
    let u := { s with hall := { s.hall with inbox := rest } }
    (∀ id, s.hall.inbox = ⟨tag, .setHall id⟩ :: rest →
      (63 < id → exec .setHall s = .next (u.reply ⟨tag, .setHall id⟩ .badRequest)) ∧
      (id ≤ 63 → s.hall.mode ≠ .setup →
        exec .setHall s = .next (u.reply ⟨tag, .setHall id⟩ (.wrongHallMode s.hall.mode))) ∧
      (id ≤ 63 → s.hall.mode = .setup →
        exec .setHall s = .next ({ s with hall := { s.hall with
          inbox := rest, hallId := some id } }.reply ⟨tag, .setHall id⟩ (.hallSet s.hall.hallId)))) ∧
    (s.hall.inbox = ⟨tag, .openHall⟩ :: rest →
      (s.hall.mode = .setup → s.hall.hallId ≠ none → s.clock.isSet = true →
        1 ≤ s.tariff.generation →
        exec .openHall s = .next ({ s with hall := { s.hall with
          inbox := rest, mode := .serving } }.reply ⟨tag, .openHall⟩ .hallMoved)) ∧
      (s.hall.mode ≠ .setup ∨ s.hall.hallId = none ∨ s.clock.isSet = false ∨
          s.tariff.generation = 0 →
        exec .openHall s = .next (u.reply ⟨tag, .openHall⟩ (.openRefused s.hall.mode
          ⟨s.hall.hallId.isNone, !s.clock.isSet, s.tariff.generation == 0⟩)))) ∧
    (s.hall.inbox = ⟨tag, .suspend⟩ :: rest →
      exec .suspend s = .next (if s.hall.mode = .serving then
        { s with hall := { s.hall with inbox := rest, mode := .suspended } }.reply ⟨tag, .suspend⟩
          .hallMoved
        else u.reply ⟨tag, .suspend⟩ (.wrongHallMode s.hall.mode))) ∧
    (s.hall.inbox = ⟨tag, .resume⟩ :: rest →
      exec .resume s = .next (if s.hall.mode = .suspended then
        { s with hall := { s.hall with inbox := rest, mode := .serving } }.reply ⟨tag, .resume⟩
          .hallMoved
        else u.reply ⟨tag, .resume⟩ (.wrongHallMode s.hall.mode)))

/-- 12 R194: SOFT_RESET sets the closing mark and is answered OK; CLEAR_ALL does so unless the hall is
SERVING, the id carried is not the one held, or another request is outstanding, tested in that order. -/
def Obligations.HallClosing : Prop :=
  ∀ (s : State) (tag : Byte) (rest : List Handed), s.running = true →
    let u := { s with hall := { s.hall with inbox := rest } }
    (s.hall.inbox = ⟨tag, .softReset⟩ :: rest →
      exec .softReset s = .next ({ u with office := { s.office with
        closing := some .softReset } }.reply ⟨tag, .softReset⟩ .softResetTaken)) ∧
    ∀ id, s.hall.inbox = ⟨tag, .clearAll id⟩ :: rest →
      (s.hall.mode = .serving →
        exec .clearAll s = .next (u.reply ⟨tag, .clearAll id⟩ (.wrongHallMode .serving))) ∧
      (s.hall.mode ≠ .serving → id ≠ s.hall.hallId →
        exec .clearAll s = .next (u.reply ⟨tag, .clearAll id⟩ (.hallIdDiffers s.hall.hallId))) ∧
      (s.hall.mode ≠ .serving → id = s.hall.hallId → (∃ e ∈ s.office.tags, e.tag ≠ tag) →
        exec .clearAll s = .next (u.reply ⟨tag, .clearAll id⟩ .othersOutstanding)) ∧
      (s.hall.mode ≠ .serving → id = s.hall.hallId → (∀ e ∈ s.office.tags, e.tag = tag) →
        exec .clearAll s = .next ({ u with office := { s.office with
          closing := some .clearAll } }.reply ⟨tag, .clearAll id⟩ (.clearAllTaken s.hall.hallId)))

/-! ### The lanes -/

/-- 09 R151, R152, R155, 04 R73, 10 R174, R175: the next served address at or above the round position is
polled; with none left the next address of the roll-call set above the pointer is called; with the set empty
a new round begins at address 1; and with every station HELD nothing is sent. The poll carries the station's
reply and busy notice, and a WRITE_ORDER carried for the first time hands its delivery event. LINE_STUCK makes
the lane wait with the poll it is ready to send, with its indication and report unless the indication is set
already, and LINE_IDLE_RESUME alone sends that poll (log entry 13). -/
def Obligations.PollSent : Prop :=
  ∀ (s : State) (l : Lane), s.running = true → (s.lane l).mode = .running →
    (s.lane l).exchange = none →
    let c := s.lane l
    let walked : Prop := ∀ p b, c.position = some p → p ≤ b → (c.stations.get b).state.served = false
    (∀ i a k, (i = .sendPoll l ∧ c.waiting = none ∧ c.nextPoll = some (a, k) ∨
        i = .lineIdleResume l ∧ c.waiting = some (a, k)) →
      let r := c.stations.get a
      ∃ t : State, exec i s = .next t ∧
        t.lane l = { c with
          exchange := some ⟨⟨a, k, r.state, r.slot.map fun x => (x.request, x.reply), r.busy⟩, []⟩
          position := if k = .rollCall then none else if a = 7 then none else some (a + 1)
          rollPointer := if k = .rollCall then a else c.rollPointer
          waiting := none
          stations := c.stations.set a { r with
            slot := r.slot.map fun x => { x with sent := true }, busy := none } } ∧
        (∀ m, m ≠ l → t.lane m = s.lane m) ∧
        t.sale = { s.sale with deliveries := s.sale.deliveries ++
          match r.slot with
          | some ⟨_, .writeOrder o, false⟩ => [⟨⟨l, a⟩, o.sale⟩]
          | _ => [] } ∧
        t.office = s.office ∧ t.hall = s.hall ∧ t.decoder = s.decoder ∧ t.tariff = s.tariff ∧
        t.clock = s.clock ∧ t.totals = s.totals) ∧
    (∀ p a, c.position = some p → p ≤ a → (c.stations.get a).state.served = true →
      (∀ b, p ≤ b → b < a → (c.stations.get b).state.served = false) →
      c.nextPoll = some (a, .poll)) ∧
    (∀ a, walked →
      (c.stations.get a).state.called = true →
      (c.rollPointer < a ∧ (∀ b, c.rollPointer < b → b < a → (c.stations.get b).state.called = false) ∨
        a ≤ c.rollPointer ∧ (∀ b, c.rollPointer < b → (c.stations.get b).state.called = false) ∧
          (∀ b, b < a → (c.stations.get b).state.called = false)) →
      c.nextPoll = some (a, .rollCall)) ∧
    (walked → (∀ b, (c.stations.get b).state.called = false) →
      (∀ a, (c.stations.get a).state.served = true →
        (∀ b, b < a → (c.stations.get b).state.served = false) → c.nextPoll = some (a, .poll)) ∧
      ((∀ a, (c.stations.get a).state.served = false) → c.waiting = none →
        exec (.sendPoll l) s = .next (s.setLane l { c with position := some 0 }) ∧
        exec (.lineStuck l) s = .next s)) ∧
    (∀ x, (x = .good ∨ x = .doubtful ∨ x = .leaving ↔ StationState.served x = true) ∧
      (x = .absent ∨ x = .pending ∨ x = .dropped ↔ StationState.called x = true)) ∧
    (∀ p, c.waiting = some p ∨ c.waiting = none ∧ c.nextPoll = some p →
      (c.lineStuck = false → exec (.lineStuck l) s = .next ((s.setLane l { c with
        lineStuck := true, waiting := some p }).queueReport (.lineStuck l s.time))) ∧
      (c.lineStuck = true → exec (.lineStuck l) s = .next (s.setLane l { c with
        waiting := some p }))) ∧
    (c.waiting ≠ none → exec (.sendPoll l) s = .next s) ∧
    (c.waiting = none → exec (.lineIdleResume l) s = .next s)

/-- 09 R153, R154, R155, R158, 10 R163, R165, R167: bytes that do not complete an answer are kept. A valid
REQUEST answer of a PENDING, GOOD, DOUBTFUL or LEAVING station first confirms the reply it says it has seen,
then is a repeat, refused busy, answered NOT_SERVING for a PENDING station, or queued for the Sale Engine; a
served station's score falls by 1, and a DOUBTFUL one below 64 becomes GOOD. -/
def Obligations.RequestAnswered : Prop :=
  ∀ (s : State) (l : Lane) (x : Exchange) (bytes got : List Byte),
    s.running = true → (s.lane l).exchange = some x →
    (collectAnswer x.received bytes = (got, false) →
      exec (.laneAnswer l bytes) s =
        .next (s.setLane l { s.lane l with exchange := some { x with received := got } })) ∧
    ∀ (a : Answer) (q : StationRequest), collectAnswer x.received bytes = (got, true) →
    readLaneFrame got = .answer a → a.address.toNat = x.poll.addr.val + 1 → a.kind = .request q →
    let st : StationId := ⟨l, x.poll.addr⟩
    let r := (s.station st).confirm a.lastSeen
    let scored (y : StationRecord) : StationRecord :=
      if r.state = .pending then { y with silent := 0 } else y.passed 0
    Confirms (s.station st) a.lastSeen r ∧
    (r.state = .good ∨ r.state = .doubtful ∨ r.state = .leaving ∨ r.state = .pending →
      ∃ t : State, exec (.laneAnswer l bytes) s = .next t ∧ s.ExchangeOver l x.poll.kind t ∧
        (∀ su, su ≠ st → t.station su = s.station su) ∧
        t.office = s.office.reported
          (if r.state = .pending then [] else r.passedReports st s.time) ∧
        t.hall = s.hall ∧
        t.decoder = s.decoder ∧ t.tariff = s.tariff ∧ t.clock = s.clock ∧ t.totals = s.totals ∧
        (r.lastRequest = some a.number → t.sale = s.sale ∧ t.station st = scored r) ∧
        (r.lastRequest ≠ some a.number → r.outstanding ≠ none → t.sale = s.sale ∧
          t.station st = scored { r with busy := some a.number }) ∧
        (r.lastRequest ≠ some a.number → r.outstanding = none → r.state = .pending → t.sale = s.sale ∧
          t.station st = { r with
            silent := 0, lastRequest := some a.number, outstanding := some ⟨a.number, false⟩
            slot := some ⟨a.number, .notServing, false⟩ }) ∧
        (r.lastRequest ≠ some a.number → r.outstanding = none → r.state ≠ .pending →
          t.sale = { s.sale with queue := s.sale.queue ++ [.station st a.number q] } ∧
          t.station st = scored { r with
            lastRequest := some a.number, outstanding := some ⟨a.number, false⟩ }))

/-- 09 R153, R156, R158, 10 R165 to R167, R169, R170: what a valid answer does, once read for its
confirmation, besides a served or PENDING station's REQUEST. A JOIN to a roll-call at an ABSENT address makes
the station PENDING; a LEAVE makes a PENDING one ABSENT, a served one LEAVING, or, while it holds a context,
marks it. NOTHING, JOIN and a WAIT below the wait limit are scored. Any answer of a DROPPED station is a clean
call, whose 32nd recovers or holds it by the recovery mode. That a request the lane answered itself goes with
a LEAVE is log entry 12. -/
def Obligations.JoinAndLeave : Prop :=
  ∀ (s : State) (l : Lane) (x : Exchange) (bytes got : List Byte) (a : Answer),
    s.running = true → (s.lane l).exchange = some x → collectAnswer x.received bytes = (got, true) →
    readLaneFrame got = .answer a → a.address.toNat = x.poll.addr.val + 1 →
    let st : StationId := ⟨l, x.poll.addr⟩
    let r := (s.station st).confirm a.lastSeen
    let settings := (s.lane l).settings
    let becomes (y : StationRecord) (reports : List Report) (losses : List Loss) : Prop :=
      ∃ t : State, exec (.laneAnswer l bytes) s = .next t ∧ t.station st = y ∧
        s.ExchangeOver l x.poll.kind t ∧ t.office = s.office.reported reports ∧
        (∀ su, su ≠ st → t.station su = s.station su) ∧
        t.sale = { s.sale with losses := s.sale.losses ++ losses } ∧ t.hall = s.hall ∧
        t.decoder = s.decoder ∧ t.tariff = s.tariff ∧ t.clock = s.clock ∧ t.totals = s.totals
    let served : Prop := r.state = .good ∨ r.state = .doubtful ∨ r.state = .leaving
    Confirms (s.station st) a.lastSeen r ∧
    (r.state = .absent → a.kind = .join → x.poll.kind = .rollCall →
      becomes { r with state := .pending, silent := 0 } [.stationJoined st] []) ∧
    (r.state = .absent → (a.kind ≠ .join ∨ x.poll.kind ≠ .rollCall) → becomes r [] []) ∧
    (r.state = .pending → a.kind = .leave →
      becomes { StationRecord.initial with
        contextFlag := r.contextFlag
        outstanding := r.outstanding.filter fun o => o.orphaned }
        [.stationGone st .leave] []) ∧
    (r.state = .pending → a.kind = .nothing ∨ a.kind = .wait ∨ a.kind = .join →
      becomes { r with silent := 0 } [] []) ∧
    (r.state = .good ∨ r.state = .doubtful → a.kind = .leave → r.contextFlag = none →
      becomes { r with state := .leaving, score := r.score - 1, waits := 0 }
        [.stationLeaving st] []) ∧
    (r.state = .good ∨ r.state = .doubtful → a.kind = .leave → r.contextFlag ≠ none →
      becomes (({ r with leaveRequested := true } : StationRecord).passed 0)
        (r.passedReports st s.time) []) ∧
    (served → a.kind = .nothing ∨ a.kind = .join ∨ r.state = .leaving ∧ a.kind = .leave →
      becomes (r.passed 0) (r.passedReports st s.time) []) ∧
    (served → a.kind = .wait → r.waits + 1 < settings.waitLimit →
      becomes (r.passed (r.waits + 1)) (r.passedReports st s.time) []) ∧
    (r.state = .dropped →
      let calls := min (r.cleanCalls + 1) 32
      (calls < 32 → becomes { r with cleanCalls := calls } [] []) ∧
      (calls = 32 → settings.recovery = .auto →
        becomes { r with state := .good, score := 0, cleanCalls := 0, waits := 0 }
          [.stationState st .dropped .good .recovered 0 0 r.errors s.time] []) ∧
      (calls = 32 → settings.recovery = .holdAfter →
        becomes { r with state := .held, cleanCalls := 32 }
          [.stationState st .dropped .held .holdAfter r.score 32 r.errors s.time]
          (if r.contextFlag = none then [] else [⟨st, .held⟩])) ∧
      (calls = 32 → settings.recovery = .hostOnly ∨ settings.recovery = .holdAtDrop →
        becomes { r with cleanCalls := 32 } [] []))

/-- 10 R163 to R170, R173, 09 R156: how an exchange that ends in a failure acts. An answer timeout is
NO_ANSWER, or BAD_FORM where a frame had begun; a complete frame is BAD_CHECK, BAD_FORM or WRONG_ADDRESS; a
WAIT that reaches the wait limit is WAIT_LIMIT, once it has been read for its confirmation. A served
station's score rises by 8; at 96 a GOOD one becomes DOUBTFUL; past 255 the station is dropped, with a loss
event if it holds a context; the kind joins the error record by the lane's mode. A DROPPED station's clean
calls return to 0, and a PENDING one goes at its eighth silent roll-call, its outstanding request kept and
orphaned (log entry 12). -/
def Obligations.TimeoutScored : Prop :=
  ∀ (s : State) (l : Lane) (x : Exchange) (i : Instr) (kind : FailureKind) (r : StationRecord),
    s.running = true → (s.lane l).exchange = some x →
    let st : StationId := ⟨l, x.poll.addr⟩
    (i = .answerTimeout l ∧ kind = (if x.received = [] then .noAnswer else .badForm) ∧
        r = s.station st ∨
      ∃ bytes got, i = .laneAnswer l bytes ∧ collectAnswer x.received bytes = (got, true) ∧
        (readLaneFrame got = .badCheck ∧ kind = .badCheck ∧ r = s.station st ∨
          readLaneFrame got = .badForm ∧ kind = .badForm ∧ r = s.station st ∨
          ∃ a, readLaneFrame got = .answer a ∧
            (a.address.toNat ≠ x.poll.addr.val + 1 ∧ kind = .wrongAddress ∧ r = s.station st ∨
              a.address.toNat = x.poll.addr.val + 1 ∧ a.kind = .wait ∧ kind = .waitLimit ∧
                r = (s.station st).confirm a.lastSeen ∧
                (r.state = .good ∨ r.state = .doubtful ∨ r.state = .leaving) ∧
                (s.lane l).settings.waitLimit ≤ r.waits + 1))) →
    let errors := recordFailure (s.lane l).settings.errors r.errors kind
    let becomes (y : StationRecord) (reports : List Report) (losses : List Loss) : Prop :=
      ∃ t : State, exec i s = .next t ∧ t.station st = y ∧
        s.ExchangeOver l x.poll.kind t ∧ t.office = s.office.reported reports ∧
        t.sale = { s.sale with losses := s.sale.losses ++ losses } ∧
        (∀ su, su ≠ st → t.station su = s.station su) ∧ t.hall = s.hall ∧ t.decoder = s.decoder ∧
        t.tariff = s.tariff ∧ t.clock = s.clock ∧ t.totals = s.totals
    let loss (why : LossCause) : List Loss := if r.contextFlag = none then [] else [⟨st, why⟩]
    RecordsFailure (s.lane l).settings.errors r.errors kind errors ∧
    (r.state = .good ∨ r.state = .doubtful ∨ r.state = .leaving →
      (r.score + 8 ≤ 255 → r.state = .good → 96 ≤ r.score + 8 →
        becomes { r with state := .doubtful, score := r.score + 8, waits := 0, errors := errors }
          [.stationState st .good .doubtful .scoreUp (r.score + 8) r.cleanCalls errors s.time] []) ∧
      (r.score + 8 ≤ 255 → r.state ≠ .good ∨ r.score + 8 < 96 →
        becomes { r with score := r.score + 8, waits := 0, errors := errors } [] []) ∧
      (255 < r.score + 8 → (s.lane l).settings.recovery ≠ .holdAtDrop →
        becomes { r with
          state := .dropped, score := 255, cleanCalls := 0, waits := 0, errors := errors
          leaveRequested := false }
          [.stationState st r.state .dropped .drop 255 0 errors s.time] (loss .dropped)) ∧
      (255 < r.score + 8 → (s.lane l).settings.recovery = .holdAtDrop →
        becomes { r with
          state := .held, score := 255, cleanCalls := 0, waits := 0, errors := errors
          leaveRequested := false }
          [.stationState st r.state .held .holdAtDrop 255 0 errors s.time] (loss .held))) ∧
    (r.state = .dropped → becomes { r with cleanCalls := 0, errors := errors } [] []) ∧
    (r.state = .pending → r.silent < 7 → becomes { r with silent := r.silent + 1 } [] []) ∧
    (r.state = .pending → 7 ≤ r.silent →
      becomes { StationRecord.initial with
        contextFlag := r.contextFlag
        outstanding := r.outstanding.map fun o => { o with orphaned := true } }
        [.stationGone st .silence] []) ∧
    (r.state = .absent → becomes r [] [])

/-- 09 R147 to R150, 10 R175: LANE_SET's table, LANE_SETTINGS in OFF with its clamps, and
CLEAR_LINE_STUCK. A lane that enters OFF makes every station ABSENT, each with the values of R146 but for
its context flag and its outstanding request, and hands one loss event for each that holds a context (their
order: log entry 22). The WRONG_MODE of LANE_SET carries no field (log entry 25). -/
def Obligations.LaneRequests : Prop :=
  ∀ (s : State) (l : Lane) (tag : Byte) (rest : List Handed), s.running = true →
    let c := s.lane l
    let u := s.setLane l { c with inbox := rest }
    (∀ ref m, c.inbox = ⟨tag, .laneSet ref m⟩ :: rest →
      let h : Handed := ⟨tag, .laneSet ref m⟩
      (m = c.mode → exec (.laneSet l) s = .next (u.reply h (.laneModes m m))) ∧
      (c.mode = .off → m = .paused → exec (.laneSet l) s = .next (u.reply h .cannotPause)) ∧
      (c.mode = .running → m = .paused →
        exec (.laneSet l) s = .next ((s.setLane l { c with
          inbox := rest, mode := .paused, waiting := none }).reply h (.laneModes .running .paused))) ∧
      (c.mode ≠ .running → m = .running →
        exec (.laneSet l) s = .next ((s.setLane l { c with
          inbox := rest, mode := .running, position := some 0, waiting := none }).reply h
            (.laneModes c.mode .running))) ∧
      (c.mode ≠ .off → m = .off →
        ∃ (t : State) (stations holding : List (Fin 8)),
          exec (.laneSet l) s = .next (t.reply h (.laneOff c.mode stations.length holding.length)) ∧
          (stations.Nodup ∧ ∀ a, a ∈ stations ↔ (c.stations.get a).state ≠ .absent) ∧
          (holding.Nodup ∧ ∀ a, a ∈ holding ↔
            (c.stations.get a).state ≠ .absent ∧ (c.stations.get a).contextFlag ≠ none) ∧
          t.sale = { s.sale with losses :=
            s.sale.losses ++ holding.map fun a => ⟨⟨l, a⟩, .off⟩ } ∧
          t.lane l = { c with
            mode := .off, exchange := none, position := some 0, waiting := none, inbox := rest
            stations := (t.lane l).stations } ∧
          (∀ a, (t.lane l).stations.get a =
            if (c.stations.get a).state = .absent then c.stations.get a
            else { StationRecord.initial with
              contextFlag := (c.stations.get a).contextFlag
              outstanding :=
                (c.stations.get a).outstanding.map fun o => { o with orphaned := true } }) ∧
          (∀ k, k ≠ l → t.lane k = s.lane k) ∧ t.office = s.office ∧ t.hall = s.hall ∧
          t.decoder = s.decoder ∧ t.tariff = s.tariff ∧ t.clock = s.clock ∧ t.totals = s.totals)) ∧
    (∀ ref recovery errors timeout waitLimit,
      c.inbox = ⟨tag, .laneSettings ref recovery errors timeout waitLimit⟩ :: rest →
      let h : Handed := ⟨tag, .laneSettings ref recovery errors timeout waitLimit⟩
      (c.mode ≠ .off → exec (.laneSettings l) s = .next (u.reply h (.wrongLaneMode c.mode))) ∧
      (c.mode = .off → ∃ ms waits,
        exec (.laneSettings l) s = .next ((s.setLane l { c with
          inbox := rest, settings := ⟨recovery, errors, ms, waits⟩ }).reply h
            (.settings ⟨recovery, errors, ms, waits⟩ c.settings)) ∧
        (timeout < 1 → ms = 1) ∧ (1 ≤ timeout → timeout ≤ 15 → ms = timeout) ∧
        (15 < timeout → ms = 15) ∧ (waitLimit < 1 → waits = 1) ∧
        (1 ≤ waitLimit → waitLimit ≤ 1000 → waits = waitLimit) ∧ (1000 < waitLimit → waits = 1000))) ∧
    (∀ ref, c.inbox = ⟨tag, .clearLineStuck ref⟩ :: rest →
      exec (.clearLineStuck l) s = .next ((s.setLane l { c with
        inbox := rest, lineStuck := false }).reply ⟨tag, .clearLineStuck ref⟩
          (.formerStuck c.lineStuck)))

/-- 09 R157, R159, 10 R172, R173: ENROLL of a PENDING station, RELEASE of one that is held and free of
contexts, RESTORE of a DROPPED or HELD one, and CLEAR_STATION_ERRORS of any; in other states the first
three are refused with the state. -/
def Obligations.StationRequests : Prop :=
  ∀ (s : State) (st : StationId) (tag : Byte) (rest : List Handed), s.running = true →
    let r := s.station st
    let u := s.setLane st.lane { s.lane st.lane with inbox := rest }
    let with' (y : StationRecord) : State := s.setLane st.lane { s.lane st.lane with
      inbox := rest, stations := (s.lane st.lane).stations.set st.addr y }
    (∀ role, (s.lane st.lane).inbox = ⟨tag, .enroll (some st) role⟩ :: rest →
      let h : Handed := ⟨tag, .enroll (some st) role⟩
      (r.state = .pending →
        exec (.enroll st.lane) s = .next ((with' { r with
          state := .good, role := some role, score := 0, cleanCalls := 0, waits := 0
          errors := .empty, silent := 0 }).reply h (.enrolled st role))) ∧
      (r.state ≠ .pending →
        exec (.enroll st.lane) s = .next (u.reply h (.wrongStationState r.state)))) ∧
    ((s.lane st.lane).inbox = ⟨tag, .release (some st)⟩ :: rest →
      let h : Handed := ⟨tag, .release (some st)⟩
      (r.state = .absent ∨ r.state = .good ∨ r.state = .doubtful →
        exec (.release st.lane) s = .next (u.reply h (.wrongStationState r.state))) ∧
      (r.state ≠ .absent → r.state ≠ .good → r.state ≠ .doubtful →
        (∀ n, r.contextFlag = some n →
          exec (.release st.lane) s = .next (u.reply h (.stationHolds n))) ∧
        (r.contextFlag = none →
          exec (.release st.lane) s = .next ((with' { StationRecord.initial with
            outstanding := r.outstanding.map fun o => { o with orphaned := true } }).reply h
              (.released r.state))))) ∧
    ((s.lane st.lane).inbox = ⟨tag, .restore (some st)⟩ :: rest →
      let h : Handed := ⟨tag, .restore (some st)⟩
      (r.state = .dropped ∨ r.state = .held →
        exec (.restore st.lane) s = .next ((with' { r with
          state := .good, score := 0, cleanCalls := 0, waits := 0 }).reply h
            (.restored r.state r.cleanCalls))) ∧
      (r.state ≠ .dropped → r.state ≠ .held →
        exec (.restore st.lane) s = .next (u.reply h (.wrongStationState r.state)))) ∧
    ((s.lane st.lane).inbox = ⟨tag, .clearStationErrors (some st)⟩ :: rest →
      exec (.clearStationErrors st.lane) s = .next ((with' { r with errors := .empty }).reply
        ⟨tag, .clearStationErrors (some st)⟩ (.formerErrors r.errors)))

/-! ### Power and the two starts -/

/-- 12 R195: a loss of main supply and a held RESET line stop the traffic and note the hall time; the
return of main supply, and the release of the line, leave due the start that the rule names. That the
start is then performed by its own command is log entry 5. -/
def Obligations.StopsAndReturns : Prop :=
  ∀ s : State,
    let stopped := { s with
      office := { s.office with receiver := .hunting, sending := none }
      laneA := { s.laneA with exchange := none }
      laneB := { s.laneB with exchange := none } }
    (s.hall.power = .run → s.hall.resetHeld = false →
      exec .mainSupplyLoss s = .next { stopped with hall := { s.hall with
        power := .retain, entryTime := some s.time } }) ∧
    (s.hall.power = .run → s.hall.resetHeld = true →
      exec .mainSupplyLoss s = .next { stopped with hall := { s.hall with power := .retain } }) ∧
    (s.hall.power = .retain → s.hall.startDue = none →
      exec .mainSupplyReturn s = .next { s with hall := { s.hall with
        power := .run
        startDue := some (if s.hall.backupLatch then .cold true else .warm .supply) } }) ∧
    exec .backupFailure s = .next { s with hall := { s.hall with backupLatch := true } } ∧
    (s.hall.power = .run → s.hall.resetHeld = false → s.hall.startDue = none →
      exec .resetLineAssert s = .next { stopped with hall := { s.hall with
        resetHeld := true, entryTime := some s.time } }) ∧
    (s.hall.power = .run → s.hall.resetHeld = true →
      (s.hall.startDue = none →
        exec .resetLineRelease s = .next { s with hall := { s.hall with
          resetHeld := false, startDue := some (.warm .resetLine) } }) ∧
      (∀ d, s.hall.startDue = some d → d ≠ .warm .softReset →
        exec .resetLineRelease s = .next { s with hall := { s.hall with resetHeld := false } })) ∧
    (s.hall.power = .retain → s.hall.resetHeld = false →
      exec .resetLineAssert s = .next { s with hall := { s.hall with resetHeld := true } }) ∧
    (s.hall.power = .retain → s.hall.resetHeld = true →
      exec .resetLineRelease s = .next { s with hall := { s.hall with resetHeld := false } })

/-- 12 R196, R197, 04 R86, 05 R90, 08 R144, 09 R162, 11 R187: the warm start drops what the office line held,
ends every context with its orders, note and record, sends every GOOD, DOUBTFUL, DROPPED or HELD station to
GOOD with its counts at 0, leaves WARM_START the only report, recomputes the period, and keeps every
collection, counter, number, setting, table, the hall mode and the hall id; the cold start sets every block
to its cold-start values, a latch that did not call for it kept (log entry 5). That an exchange in flight is
abandoned whatever the cause is log entry 26, that a report dropped by the start's own steps sets the overflow
indication log entry 28. The boundary event of the start waits for its two units and, until both have taken it,
the part takes no frame and polls nothing (log entry 30). -/
def Obligations.Starts : Prop :=
  (∀ (s : State) (cause : WarmCause), s.hall.power = .run → s.hall.resetHeld = false →
    s.hall.startDue = some (.warm cause) → s.sale.Numbered → s.sale.CardsHeld → s.office.Within →
    ∃ t : State, exec .warmStart s = .next t ∧ IsWarmStart s cause t ∧ t.started = true ∧
      (t.clock.stamp ≠ s.clock.stamp → t.running = false)) ∧
  ∀ (s : State) (byLatch : Bool), s.hall.power = .run → s.hall.resetHeld = false →
    s.hall.startDue = some (.cold byLatch) →
    exec .coldStart s = .next { State.reset with
      hall := { HallControl.initial with
        backupLatch := if byLatch then false else s.hall.backupLatch }
      pending := s.pending }
end

