-- ==== Sys2Proof/Laws/State.lean ====
section
/-! SUPPORT. What each shared operation leaves unchanged, field by field. -/

namespace Sys2Proof.Machine

open Sys2Proof

/-! ### `State.setLane` -/

@[simp] theorem State.setLane_office (s : State) (l : Lane) (x : LaneControl) :
    (s.setLane l x).office = s.office := by cases l <;> rfl

@[simp] theorem State.setLane_hall (s : State) (l : Lane) (x : LaneControl) :
    (s.setLane l x).hall = s.hall := by cases l <;> rfl

@[simp] theorem State.setLane_sale (s : State) (l : Lane) (x : LaneControl) :
    (s.setLane l x).sale = s.sale := by cases l <;> rfl

@[simp] theorem State.setLane_decoder (s : State) (l : Lane) (x : LaneControl) :
    (s.setLane l x).decoder = s.decoder := by cases l <;> rfl

@[simp] theorem State.setLane_tariff (s : State) (l : Lane) (x : LaneControl) :
    (s.setLane l x).tariff = s.tariff := by cases l <;> rfl

@[simp] theorem State.setLane_clock (s : State) (l : Lane) (x : LaneControl) :
    (s.setLane l x).clock = s.clock := by cases l <;> rfl

@[simp] theorem State.setLane_totals (s : State) (l : Lane) (x : LaneControl) :
    (s.setLane l x).totals = s.totals := by cases l <;> rfl

@[simp] theorem State.setLane_pending (s : State) (l : Lane) (x : LaneControl) :
    (s.setLane l x).pending = s.pending := by cases l <;> rfl

/-! ### `State.setStation` -/

@[simp] theorem State.setStation_office (s : State) (st : StationId) (r : StationRecord) :
    (s.setStation st r).office = s.office := by simp [State.setStation]

@[simp] theorem State.setStation_hall (s : State) (st : StationId) (r : StationRecord) :
    (s.setStation st r).hall = s.hall := by simp [State.setStation]

@[simp] theorem State.setStation_sale (s : State) (st : StationId) (r : StationRecord) :
    (s.setStation st r).sale = s.sale := by simp [State.setStation]

@[simp] theorem State.setStation_decoder (s : State) (st : StationId) (r : StationRecord) :
    (s.setStation st r).decoder = s.decoder := by simp [State.setStation]

@[simp] theorem State.setStation_tariff (s : State) (st : StationId) (r : StationRecord) :
    (s.setStation st r).tariff = s.tariff := by simp [State.setStation]

@[simp] theorem State.setStation_clock (s : State) (st : StationId) (r : StationRecord) :
    (s.setStation st r).clock = s.clock := by simp [State.setStation]

@[simp] theorem State.setStation_totals (s : State) (st : StationId) (r : StationRecord) :
    (s.setStation st r).totals = s.totals := by simp [State.setStation]

@[simp] theorem State.setStation_pending (s : State) (st : StationId) (r : StationRecord) :
    (s.setStation st r).pending = s.pending := by simp [State.setStation]

/-! ### `State.queueReport` -/

@[simp] theorem State.queueReport_hall (s : State) (r : Report) :
    (s.queueReport r).hall = s.hall := rfl

@[simp] theorem State.queueReport_laneA (s : State) (r : Report) :
    (s.queueReport r).laneA = s.laneA := rfl

@[simp] theorem State.queueReport_laneB (s : State) (r : Report) :
    (s.queueReport r).laneB = s.laneB := rfl

@[simp] theorem State.queueReport_sale (s : State) (r : Report) :
    (s.queueReport r).sale = s.sale := rfl

@[simp] theorem State.queueReport_decoder (s : State) (r : Report) :
    (s.queueReport r).decoder = s.decoder := rfl

@[simp] theorem State.queueReport_tariff (s : State) (r : Report) :
    (s.queueReport r).tariff = s.tariff := rfl

@[simp] theorem State.queueReport_clock (s : State) (r : Report) :
    (s.queueReport r).clock = s.clock := rfl

@[simp] theorem State.queueReport_totals (s : State) (r : Report) :
    (s.queueReport r).totals = s.totals := rfl

@[simp] theorem State.queueReport_pending (s : State) (r : Report) :
    (s.queueReport r).pending = s.pending := rfl

/-! ### `State.reply` -/

@[simp] theorem State.reply_hall (s : State) (h : Handed) (r : HostReply) :
    (s.reply h r).hall = s.hall := rfl

@[simp] theorem State.reply_laneA (s : State) (h : Handed) (r : HostReply) :
    (s.reply h r).laneA = s.laneA := rfl

@[simp] theorem State.reply_laneB (s : State) (h : Handed) (r : HostReply) :
    (s.reply h r).laneB = s.laneB := rfl

@[simp] theorem State.reply_sale (s : State) (h : Handed) (r : HostReply) :
    (s.reply h r).sale = s.sale := rfl

@[simp] theorem State.reply_decoder (s : State) (h : Handed) (r : HostReply) :
    (s.reply h r).decoder = s.decoder := rfl

@[simp] theorem State.reply_tariff (s : State) (h : Handed) (r : HostReply) :
    (s.reply h r).tariff = s.tariff := rfl

@[simp] theorem State.reply_clock (s : State) (h : Handed) (r : HostReply) :
    (s.reply h r).clock = s.clock := rfl

@[simp] theorem State.reply_totals (s : State) (h : Handed) (r : HostReply) :
    (s.reply h r).totals = s.totals := rfl

@[simp] theorem State.reply_pending (s : State) (h : Handed) (r : HostReply) :
    (s.reply h r).pending = s.pending := rfl

/-! ### `State.giveReply` -/

@[simp] theorem State.giveReply_office (s : State) (st : StationId) (n : Byte) (r : StationReply) :
    (s.giveReply st n r).office = s.office := by simp [State.giveReply]

@[simp] theorem State.giveReply_hall (s : State) (st : StationId) (n : Byte) (r : StationReply) :
    (s.giveReply st n r).hall = s.hall := by simp [State.giveReply]

@[simp] theorem State.giveReply_sale (s : State) (st : StationId) (n : Byte) (r : StationReply) :
    (s.giveReply st n r).sale = s.sale := by simp [State.giveReply]

@[simp] theorem State.giveReply_decoder (s : State) (st : StationId) (n : Byte) (r : StationReply) :
    (s.giveReply st n r).decoder = s.decoder := by simp [State.giveReply]

@[simp] theorem State.giveReply_tariff (s : State) (st : StationId) (n : Byte) (r : StationReply) :
    (s.giveReply st n r).tariff = s.tariff := by simp [State.giveReply]

@[simp] theorem State.giveReply_clock (s : State) (st : StationId) (n : Byte) (r : StationReply) :
    (s.giveReply st n r).clock = s.clock := by simp [State.giveReply]

@[simp] theorem State.giveReply_totals (s : State) (st : StationId) (n : Byte) (r : StationReply) :
    (s.giveReply st n r).totals = s.totals := by simp [State.giveReply]

@[simp] theorem State.giveReply_pending (s : State) (st : StationId) (n : Byte) (r : StationReply) :
    (s.giveReply st n r).pending = s.pending := by simp [State.giveReply]

/-! ### `State.withdraw` -/

@[simp] theorem State.withdraw_office (s : State) (st : StationId) (n : Nat) :
    (s.withdraw st n).office = s.office := by simp [State.withdraw]

@[simp] theorem State.withdraw_hall (s : State) (st : StationId) (n : Nat) :
    (s.withdraw st n).hall = s.hall := by simp [State.withdraw]

@[simp] theorem State.withdraw_sale (s : State) (st : StationId) (n : Nat) :
    (s.withdraw st n).sale = s.sale := by simp [State.withdraw]

@[simp] theorem State.withdraw_decoder (s : State) (st : StationId) (n : Nat) :
    (s.withdraw st n).decoder = s.decoder := by simp [State.withdraw]

@[simp] theorem State.withdraw_tariff (s : State) (st : StationId) (n : Nat) :
    (s.withdraw st n).tariff = s.tariff := by simp [State.withdraw]

@[simp] theorem State.withdraw_clock (s : State) (st : StationId) (n : Nat) :
    (s.withdraw st n).clock = s.clock := by simp [State.withdraw]

@[simp] theorem State.withdraw_totals (s : State) (st : StationId) (n : Nat) :
    (s.withdraw st n).totals = s.totals := by simp [State.withdraw]

@[simp] theorem State.withdraw_pending (s : State) (st : StationId) (n : Nat) :
    (s.withdraw st n).pending = s.pending := by simp [State.withdraw]

/-! ### `State.handLoss` -/

@[simp] theorem State.handLoss_office (s : State) (l : Loss) :
    (s.handLoss l).office = s.office := rfl

@[simp] theorem State.handLoss_hall (s : State) (l : Loss) :
    (s.handLoss l).hall = s.hall := rfl

@[simp] theorem State.handLoss_laneA (s : State) (l : Loss) :
    (s.handLoss l).laneA = s.laneA := rfl

@[simp] theorem State.handLoss_laneB (s : State) (l : Loss) :
    (s.handLoss l).laneB = s.laneB := rfl

@[simp] theorem State.handLoss_decoder (s : State) (l : Loss) :
    (s.handLoss l).decoder = s.decoder := rfl

@[simp] theorem State.handLoss_tariff (s : State) (l : Loss) :
    (s.handLoss l).tariff = s.tariff := rfl

@[simp] theorem State.handLoss_clock (s : State) (l : Loss) :
    (s.handLoss l).clock = s.clock := rfl

@[simp] theorem State.handLoss_totals (s : State) (l : Loss) :
    (s.handLoss l).totals = s.totals := rfl

@[simp] theorem State.handLoss_pending (s : State) (l : Loss) :
    (s.handLoss l).pending = s.pending := rfl

@[simp] theorem State.handLoss_sale_queue (s : State) (l : Loss) :
    (s.handLoss l).sale.queue = s.sale.queue := rfl

@[simp] theorem State.handLoss_sale_contexts (s : State) (l : Loss) :
    (s.handLoss l).sale.contexts = s.sale.contexts := rfl

@[simp] theorem State.handLoss_sale_counter (s : State) (l : Loss) :
    (s.handLoss l).sale.counter = s.sale.counter := rfl

@[simp] theorem State.handLoss_sale_timerSetting (s : State) (l : Loss) :
    (s.handLoss l).sale.timerSetting = s.sale.timerSetting := rfl

@[simp] theorem State.handLoss_sale_lastClosed (s : State) (l : Loss) :
    (s.handLoss l).sale.lastClosed = s.sale.lastClosed := rfl

@[simp] theorem State.handLoss_sale_memory (s : State) (l : Loss) :
    (s.handLoss l).sale.memory = s.sale.memory := rfl

@[simp] theorem State.handLoss_sale_doubts (s : State) (l : Loss) :
    (s.handLoss l).sale.doubts = s.sale.doubts := rfl

@[simp] theorem State.handLoss_sale_credits (s : State) (l : Loss) :
    (s.handLoss l).sale.credits = s.sale.credits := rfl

@[simp] theorem State.handLoss_sale_deliveries (s : State) (l : Loss) :
    (s.handLoss l).sale.deliveries = s.sale.deliveries := rfl

/-! ### `State.contextOpened` -/

@[simp] theorem State.contextOpened_office (s : State) (st : StationId) (n : Nat) :
    (s.contextOpened st n).office = s.office := by
  simp only [State.contextOpened]; split <;> simp

@[simp] theorem State.contextOpened_hall (s : State) (st : StationId) (n : Nat) :
    (s.contextOpened st n).hall = s.hall := by
  simp only [State.contextOpened]; split <;> simp

@[simp] theorem State.contextOpened_decoder (s : State) (st : StationId) (n : Nat) :
    (s.contextOpened st n).decoder = s.decoder := by
  simp only [State.contextOpened]; split <;> simp

@[simp] theorem State.contextOpened_tariff (s : State) (st : StationId) (n : Nat) :
    (s.contextOpened st n).tariff = s.tariff := by
  simp only [State.contextOpened]; split <;> simp

@[simp] theorem State.contextOpened_clock (s : State) (st : StationId) (n : Nat) :
    (s.contextOpened st n).clock = s.clock := by
  simp only [State.contextOpened]; split <;> simp

@[simp] theorem State.contextOpened_totals (s : State) (st : StationId) (n : Nat) :
    (s.contextOpened st n).totals = s.totals := by
  simp only [State.contextOpened]; split <;> simp

@[simp] theorem State.contextOpened_pending (s : State) (st : StationId) (n : Nat) :
    (s.contextOpened st n).pending = s.pending := by
  simp only [State.contextOpened]; split <;> simp

@[simp] theorem State.contextOpened_sale_queue (s : State) (st : StationId) (n : Nat) :
    (s.contextOpened st n).sale.queue = s.sale.queue := by
  simp only [State.contextOpened]; split <;> simp

@[simp] theorem State.contextOpened_sale_contexts (s : State) (st : StationId) (n : Nat) :
    (s.contextOpened st n).sale.contexts = s.sale.contexts := by
  simp only [State.contextOpened]; split <;> simp

@[simp] theorem State.contextOpened_sale_counter (s : State) (st : StationId) (n : Nat) :
    (s.contextOpened st n).sale.counter = s.sale.counter := by
  simp only [State.contextOpened]; split <;> simp

@[simp] theorem State.contextOpened_sale_timerSetting (s : State) (st : StationId) (n : Nat) :
    (s.contextOpened st n).sale.timerSetting = s.sale.timerSetting := by
  simp only [State.contextOpened]; split <;> simp

@[simp] theorem State.contextOpened_sale_lastClosed (s : State) (st : StationId) (n : Nat) :
    (s.contextOpened st n).sale.lastClosed = s.sale.lastClosed := by
  simp only [State.contextOpened]; split <;> simp

@[simp] theorem State.contextOpened_sale_memory (s : State) (st : StationId) (n : Nat) :
    (s.contextOpened st n).sale.memory = s.sale.memory := by
  simp only [State.contextOpened]; split <;> simp

@[simp] theorem State.contextOpened_sale_doubts (s : State) (st : StationId) (n : Nat) :
    (s.contextOpened st n).sale.doubts = s.sale.doubts := by
  simp only [State.contextOpened]; split <;> simp

@[simp] theorem State.contextOpened_sale_credits (s : State) (st : StationId) (n : Nat) :
    (s.contextOpened st n).sale.credits = s.sale.credits := by
  simp only [State.contextOpened]; split <;> simp

@[simp] theorem State.contextOpened_sale_deliveries (s : State) (st : StationId) (n : Nat) :
    (s.contextOpened st n).sale.deliveries = s.sale.deliveries := by
  simp only [State.contextOpened]; split <;> simp

/-! ### `State.contextEnded` -/

@[simp] theorem State.contextEnded_hall (s : State) (st : StationId) :
    (s.contextEnded st).hall = s.hall := by
  simp only [State.contextEnded]; split <;> simp

@[simp] theorem State.contextEnded_sale (s : State) (st : StationId) :
    (s.contextEnded st).sale = s.sale := by
  simp only [State.contextEnded]; split <;> simp

@[simp] theorem State.contextEnded_decoder (s : State) (st : StationId) :
    (s.contextEnded st).decoder = s.decoder := by
  simp only [State.contextEnded]; split <;> simp

@[simp] theorem State.contextEnded_tariff (s : State) (st : StationId) :
    (s.contextEnded st).tariff = s.tariff := by
  simp only [State.contextEnded]; split <;> simp

@[simp] theorem State.contextEnded_clock (s : State) (st : StationId) :
    (s.contextEnded st).clock = s.clock := by
  simp only [State.contextEnded]; split <;> simp

@[simp] theorem State.contextEnded_totals (s : State) (st : StationId) :
    (s.contextEnded st).totals = s.totals := by
  simp only [State.contextEnded]; split <;> simp

@[simp] theorem State.contextEnded_pending (s : State) (st : StationId) :
    (s.contextEnded st).pending = s.pending := by
  simp only [State.contextEnded]; split <;> simp

/-! ### `State.appendRecord` -/

@[simp] theorem State.appendRecord_hall (s : State) (b : RecordBody) :
    (s.appendRecord b).hall = s.hall := by
  simp only [State.appendRecord]; split <;> simp

@[simp] theorem State.appendRecord_laneA (s : State) (b : RecordBody) :
    (s.appendRecord b).laneA = s.laneA := by
  simp only [State.appendRecord]; split <;> simp

@[simp] theorem State.appendRecord_laneB (s : State) (b : RecordBody) :
    (s.appendRecord b).laneB = s.laneB := by
  simp only [State.appendRecord]; split <;> simp

@[simp] theorem State.appendRecord_sale (s : State) (b : RecordBody) :
    (s.appendRecord b).sale = s.sale := by
  simp only [State.appendRecord]; split <;> simp

@[simp] theorem State.appendRecord_decoder (s : State) (b : RecordBody) :
    (s.appendRecord b).decoder = s.decoder := by
  simp only [State.appendRecord]; split <;> simp

@[simp] theorem State.appendRecord_tariff (s : State) (b : RecordBody) :
    (s.appendRecord b).tariff = s.tariff := by
  simp only [State.appendRecord]; split <;> simp

@[simp] theorem State.appendRecord_clock (s : State) (b : RecordBody) :
    (s.appendRecord b).clock = s.clock := by
  simp only [State.appendRecord]; split <;> simp

@[simp] theorem State.appendRecord_pending (s : State) (b : RecordBody) :
    (s.appendRecord b).pending = s.pending := by
  simp only [State.appendRecord]; split <;> simp

/-! ### `State.recompute` -/

@[simp] theorem State.recompute_office (s : State) (c : BoundaryCause) :
    (s.recompute c).office = s.office := by
  simp only [State.recompute]; split <;> rfl

@[simp] theorem State.recompute_hall (s : State) (c : BoundaryCause) :
    (s.recompute c).hall = s.hall := by
  simp only [State.recompute]; split <;> rfl

@[simp] theorem State.recompute_laneA (s : State) (c : BoundaryCause) :
    (s.recompute c).laneA = s.laneA := by
  simp only [State.recompute]; split <;> rfl

@[simp] theorem State.recompute_laneB (s : State) (c : BoundaryCause) :
    (s.recompute c).laneB = s.laneB := by
  simp only [State.recompute]; split <;> rfl

@[simp] theorem State.recompute_sale (s : State) (c : BoundaryCause) :
    (s.recompute c).sale = s.sale := by
  simp only [State.recompute]; split <;> rfl

@[simp] theorem State.recompute_decoder (s : State) (c : BoundaryCause) :
    (s.recompute c).decoder = s.decoder := by
  simp only [State.recompute]; split <;> rfl

@[simp] theorem State.recompute_pending (s : State) (c : BoundaryCause) :
    (s.recompute c).pending = s.pending := by
  simp only [State.recompute]; split <;> rfl

/-! ### `State.mapCard` -/

@[simp] theorem State.mapCard_office (s : State) (card : Nat) (f : CardRecord → CardRecord) :
    (s.mapCard card f).office = s.office := rfl

@[simp] theorem State.mapCard_hall (s : State) (card : Nat) (f : CardRecord → CardRecord) :
    (s.mapCard card f).hall = s.hall := rfl

@[simp] theorem State.mapCard_laneA (s : State) (card : Nat) (f : CardRecord → CardRecord) :
    (s.mapCard card f).laneA = s.laneA := rfl

@[simp] theorem State.mapCard_laneB (s : State) (card : Nat) (f : CardRecord → CardRecord) :
    (s.mapCard card f).laneB = s.laneB := rfl

@[simp] theorem State.mapCard_decoder (s : State) (card : Nat) (f : CardRecord → CardRecord) :
    (s.mapCard card f).decoder = s.decoder := rfl

@[simp] theorem State.mapCard_tariff (s : State) (card : Nat) (f : CardRecord → CardRecord) :
    (s.mapCard card f).tariff = s.tariff := rfl

@[simp] theorem State.mapCard_clock (s : State) (card : Nat) (f : CardRecord → CardRecord) :
    (s.mapCard card f).clock = s.clock := rfl

@[simp] theorem State.mapCard_totals (s : State) (card : Nat) (f : CardRecord → CardRecord) :
    (s.mapCard card f).totals = s.totals := rfl

@[simp] theorem State.mapCard_pending (s : State) (card : Nat) (f : CardRecord → CardRecord) :
    (s.mapCard card f).pending = s.pending := rfl

@[simp] theorem State.mapCard_sale_queue (s : State) (card : Nat) (f : CardRecord → CardRecord) :
    (s.mapCard card f).sale.queue = s.sale.queue := rfl

@[simp] theorem State.mapCard_sale_contexts (s : State) (card : Nat) (f : CardRecord → CardRecord) :
    (s.mapCard card f).sale.contexts = s.sale.contexts := rfl

@[simp] theorem State.mapCard_sale_counter (s : State) (card : Nat) (f : CardRecord → CardRecord) :
    (s.mapCard card f).sale.counter = s.sale.counter := rfl

@[simp] theorem State.mapCard_sale_timerSetting (s : State) (card : Nat) (f : CardRecord → CardRecord) :
    (s.mapCard card f).sale.timerSetting = s.sale.timerSetting := rfl

@[simp] theorem State.mapCard_sale_lastClosed (s : State) (card : Nat) (f : CardRecord → CardRecord) :
    (s.mapCard card f).sale.lastClosed = s.sale.lastClosed := rfl

@[simp] theorem State.mapCard_sale_doubts (s : State) (card : Nat) (f : CardRecord → CardRecord) :
    (s.mapCard card f).sale.doubts = s.sale.doubts := rfl

@[simp] theorem State.mapCard_sale_credits (s : State) (card : Nat) (f : CardRecord → CardRecord) :
    (s.mapCard card f).sale.credits = s.sale.credits := rfl

@[simp] theorem State.mapCard_sale_deliveries (s : State) (card : Nat) (f : CardRecord → CardRecord) :
    (s.mapCard card f).sale.deliveries = s.sale.deliveries := rfl

@[simp] theorem State.mapCard_sale_losses (s : State) (card : Nat) (f : CardRecord → CardRecord) :
    (s.mapCard card f).sale.losses = s.sale.losses := rfl

/-! ### `State.mapCredits` -/

@[simp] theorem State.mapCredits_office (s : State) (f : List CreditOrder → List CreditOrder) :
    (s.mapCredits f).office = s.office := rfl

@[simp] theorem State.mapCredits_hall (s : State) (f : List CreditOrder → List CreditOrder) :
    (s.mapCredits f).hall = s.hall := rfl

@[simp] theorem State.mapCredits_laneA (s : State) (f : List CreditOrder → List CreditOrder) :
    (s.mapCredits f).laneA = s.laneA := rfl

@[simp] theorem State.mapCredits_laneB (s : State) (f : List CreditOrder → List CreditOrder) :
    (s.mapCredits f).laneB = s.laneB := rfl

@[simp] theorem State.mapCredits_decoder (s : State) (f : List CreditOrder → List CreditOrder) :
    (s.mapCredits f).decoder = s.decoder := rfl

@[simp] theorem State.mapCredits_tariff (s : State) (f : List CreditOrder → List CreditOrder) :
    (s.mapCredits f).tariff = s.tariff := rfl

@[simp] theorem State.mapCredits_clock (s : State) (f : List CreditOrder → List CreditOrder) :
    (s.mapCredits f).clock = s.clock := rfl

@[simp] theorem State.mapCredits_totals (s : State) (f : List CreditOrder → List CreditOrder) :
    (s.mapCredits f).totals = s.totals := rfl

@[simp] theorem State.mapCredits_pending (s : State) (f : List CreditOrder → List CreditOrder) :
    (s.mapCredits f).pending = s.pending := rfl

@[simp] theorem State.mapCredits_sale_queue (s : State) (f : List CreditOrder → List CreditOrder) :
    (s.mapCredits f).sale.queue = s.sale.queue := rfl

@[simp] theorem State.mapCredits_sale_contexts (s : State) (f : List CreditOrder → List CreditOrder) :
    (s.mapCredits f).sale.contexts = s.sale.contexts := rfl

@[simp] theorem State.mapCredits_sale_counter (s : State) (f : List CreditOrder → List CreditOrder) :
    (s.mapCredits f).sale.counter = s.sale.counter := rfl

@[simp] theorem State.mapCredits_sale_timerSetting (s : State) (f : List CreditOrder → List CreditOrder) :
    (s.mapCredits f).sale.timerSetting = s.sale.timerSetting := rfl

@[simp] theorem State.mapCredits_sale_lastClosed (s : State) (f : List CreditOrder → List CreditOrder) :
    (s.mapCredits f).sale.lastClosed = s.sale.lastClosed := rfl

@[simp] theorem State.mapCredits_sale_memory (s : State) (f : List CreditOrder → List CreditOrder) :
    (s.mapCredits f).sale.memory = s.sale.memory := rfl

@[simp] theorem State.mapCredits_sale_doubts (s : State) (f : List CreditOrder → List CreditOrder) :
    (s.mapCredits f).sale.doubts = s.sale.doubts := rfl

@[simp] theorem State.mapCredits_sale_deliveries (s : State) (f : List CreditOrder → List CreditOrder) :
    (s.mapCredits f).sale.deliveries = s.sale.deliveries := rfl

@[simp] theorem State.mapCredits_sale_losses (s : State) (f : List CreditOrder → List CreditOrder) :
    (s.mapCredits f).sale.losses = s.sale.losses := rfl

/-! ### `State.removeContext` -/

@[simp] theorem State.removeContext_office (s : State) (n : Nat) :
    (s.removeContext n).office = s.office := rfl

@[simp] theorem State.removeContext_hall (s : State) (n : Nat) :
    (s.removeContext n).hall = s.hall := rfl

@[simp] theorem State.removeContext_laneA (s : State) (n : Nat) :
    (s.removeContext n).laneA = s.laneA := rfl

@[simp] theorem State.removeContext_laneB (s : State) (n : Nat) :
    (s.removeContext n).laneB = s.laneB := rfl

@[simp] theorem State.removeContext_decoder (s : State) (n : Nat) :
    (s.removeContext n).decoder = s.decoder := rfl

@[simp] theorem State.removeContext_tariff (s : State) (n : Nat) :
    (s.removeContext n).tariff = s.tariff := rfl

@[simp] theorem State.removeContext_clock (s : State) (n : Nat) :
    (s.removeContext n).clock = s.clock := rfl

@[simp] theorem State.removeContext_totals (s : State) (n : Nat) :
    (s.removeContext n).totals = s.totals := rfl

@[simp] theorem State.removeContext_pending (s : State) (n : Nat) :
    (s.removeContext n).pending = s.pending := rfl

@[simp] theorem State.removeContext_sale_queue (s : State) (n : Nat) :
    (s.removeContext n).sale.queue = s.sale.queue := rfl

@[simp] theorem State.removeContext_sale_counter (s : State) (n : Nat) :
    (s.removeContext n).sale.counter = s.sale.counter := rfl

@[simp] theorem State.removeContext_sale_timerSetting (s : State) (n : Nat) :
    (s.removeContext n).sale.timerSetting = s.sale.timerSetting := rfl

@[simp] theorem State.removeContext_sale_lastClosed (s : State) (n : Nat) :
    (s.removeContext n).sale.lastClosed = s.sale.lastClosed := rfl

@[simp] theorem State.removeContext_sale_memory (s : State) (n : Nat) :
    (s.removeContext n).sale.memory = s.sale.memory := rfl

@[simp] theorem State.removeContext_sale_doubts (s : State) (n : Nat) :
    (s.removeContext n).sale.doubts = s.sale.doubts := rfl

@[simp] theorem State.removeContext_sale_credits (s : State) (n : Nat) :
    (s.removeContext n).sale.credits = s.sale.credits := rfl

@[simp] theorem State.removeContext_sale_deliveries (s : State) (n : Nat) :
    (s.removeContext n).sale.deliveries = s.sale.deliveries := rfl

@[simp] theorem State.removeContext_sale_losses (s : State) (n : Nat) :
    (s.removeContext n).sale.losses = s.sale.losses := rfl

/-! ### `State.setNote` -/

@[simp] theorem State.setNote_office (s : State) (st : StationId) (n : Nat) (e : SaleEnd) :
    (s.setNote st n e).office = s.office := rfl

@[simp] theorem State.setNote_hall (s : State) (st : StationId) (n : Nat) (e : SaleEnd) :
    (s.setNote st n e).hall = s.hall := rfl

@[simp] theorem State.setNote_laneA (s : State) (st : StationId) (n : Nat) (e : SaleEnd) :
    (s.setNote st n e).laneA = s.laneA := rfl

@[simp] theorem State.setNote_laneB (s : State) (st : StationId) (n : Nat) (e : SaleEnd) :
    (s.setNote st n e).laneB = s.laneB := rfl

@[simp] theorem State.setNote_decoder (s : State) (st : StationId) (n : Nat) (e : SaleEnd) :
    (s.setNote st n e).decoder = s.decoder := rfl

@[simp] theorem State.setNote_tariff (s : State) (st : StationId) (n : Nat) (e : SaleEnd) :
    (s.setNote st n e).tariff = s.tariff := rfl

@[simp] theorem State.setNote_clock (s : State) (st : StationId) (n : Nat) (e : SaleEnd) :
    (s.setNote st n e).clock = s.clock := rfl

@[simp] theorem State.setNote_totals (s : State) (st : StationId) (n : Nat) (e : SaleEnd) :
    (s.setNote st n e).totals = s.totals := rfl

@[simp] theorem State.setNote_pending (s : State) (st : StationId) (n : Nat) (e : SaleEnd) :
    (s.setNote st n e).pending = s.pending := rfl

@[simp] theorem State.setNote_sale_queue (s : State) (st : StationId) (n : Nat) (e : SaleEnd) :
    (s.setNote st n e).sale.queue = s.sale.queue := rfl

@[simp] theorem State.setNote_sale_contexts (s : State) (st : StationId) (n : Nat) (e : SaleEnd) :
    (s.setNote st n e).sale.contexts = s.sale.contexts := rfl

@[simp] theorem State.setNote_sale_counter (s : State) (st : StationId) (n : Nat) (e : SaleEnd) :
    (s.setNote st n e).sale.counter = s.sale.counter := rfl

@[simp] theorem State.setNote_sale_timerSetting (s : State) (st : StationId) (n : Nat) (e : SaleEnd) :
    (s.setNote st n e).sale.timerSetting = s.sale.timerSetting := rfl

@[simp] theorem State.setNote_sale_memory (s : State) (st : StationId) (n : Nat) (e : SaleEnd) :
    (s.setNote st n e).sale.memory = s.sale.memory := rfl

@[simp] theorem State.setNote_sale_doubts (s : State) (st : StationId) (n : Nat) (e : SaleEnd) :
    (s.setNote st n e).sale.doubts = s.sale.doubts := rfl

@[simp] theorem State.setNote_sale_credits (s : State) (st : StationId) (n : Nat) (e : SaleEnd) :
    (s.setNote st n e).sale.credits = s.sale.credits := rfl

@[simp] theorem State.setNote_sale_deliveries (s : State) (st : StationId) (n : Nat) (e : SaleEnd) :
    (s.setNote st n e).sale.deliveries = s.sale.deliveries := rfl

@[simp] theorem State.setNote_sale_losses (s : State) (st : StationId) (n : Nat) (e : SaleEnd) :
    (s.setNote st n e).sale.losses = s.sale.losses := rfl

/-! ### `State.removeDoubt` -/

@[simp] theorem State.removeDoubt_office (s : State) (n : Nat) :
    (s.removeDoubt n).office = s.office := rfl

@[simp] theorem State.removeDoubt_hall (s : State) (n : Nat) :
    (s.removeDoubt n).hall = s.hall := rfl

@[simp] theorem State.removeDoubt_laneA (s : State) (n : Nat) :
    (s.removeDoubt n).laneA = s.laneA := rfl

@[simp] theorem State.removeDoubt_laneB (s : State) (n : Nat) :
    (s.removeDoubt n).laneB = s.laneB := rfl

@[simp] theorem State.removeDoubt_decoder (s : State) (n : Nat) :
    (s.removeDoubt n).decoder = s.decoder := rfl

@[simp] theorem State.removeDoubt_tariff (s : State) (n : Nat) :
    (s.removeDoubt n).tariff = s.tariff := rfl

@[simp] theorem State.removeDoubt_clock (s : State) (n : Nat) :
    (s.removeDoubt n).clock = s.clock := rfl

@[simp] theorem State.removeDoubt_totals (s : State) (n : Nat) :
    (s.removeDoubt n).totals = s.totals := rfl

@[simp] theorem State.removeDoubt_pending (s : State) (n : Nat) :
    (s.removeDoubt n).pending = s.pending := rfl

@[simp] theorem State.removeDoubt_sale_queue (s : State) (n : Nat) :
    (s.removeDoubt n).sale.queue = s.sale.queue := rfl

@[simp] theorem State.removeDoubt_sale_contexts (s : State) (n : Nat) :
    (s.removeDoubt n).sale.contexts = s.sale.contexts := rfl

@[simp] theorem State.removeDoubt_sale_counter (s : State) (n : Nat) :
    (s.removeDoubt n).sale.counter = s.sale.counter := rfl

@[simp] theorem State.removeDoubt_sale_timerSetting (s : State) (n : Nat) :
    (s.removeDoubt n).sale.timerSetting = s.sale.timerSetting := rfl

@[simp] theorem State.removeDoubt_sale_lastClosed (s : State) (n : Nat) :
    (s.removeDoubt n).sale.lastClosed = s.sale.lastClosed := rfl

@[simp] theorem State.removeDoubt_sale_memory (s : State) (n : Nat) :
    (s.removeDoubt n).sale.memory = s.sale.memory := rfl

@[simp] theorem State.removeDoubt_sale_credits (s : State) (n : Nat) :
    (s.removeDoubt n).sale.credits = s.sale.credits := rfl

@[simp] theorem State.removeDoubt_sale_deliveries (s : State) (n : Nat) :
    (s.removeDoubt n).sale.deliveries = s.sale.deliveries := rfl

@[simp] theorem State.removeDoubt_sale_losses (s : State) (n : Nat) :
    (s.removeDoubt n).sale.losses = s.sale.losses := rfl

/-! ### `State.addDoubt` -/

@[simp] theorem State.addDoubt_office (s : State) (d : DoubtEntry) :
    (s.addDoubt d).office = s.office := rfl

@[simp] theorem State.addDoubt_hall (s : State) (d : DoubtEntry) :
    (s.addDoubt d).hall = s.hall := rfl

@[simp] theorem State.addDoubt_laneA (s : State) (d : DoubtEntry) :
    (s.addDoubt d).laneA = s.laneA := rfl

@[simp] theorem State.addDoubt_laneB (s : State) (d : DoubtEntry) :
    (s.addDoubt d).laneB = s.laneB := rfl

@[simp] theorem State.addDoubt_decoder (s : State) (d : DoubtEntry) :
    (s.addDoubt d).decoder = s.decoder := rfl

@[simp] theorem State.addDoubt_tariff (s : State) (d : DoubtEntry) :
    (s.addDoubt d).tariff = s.tariff := rfl

@[simp] theorem State.addDoubt_clock (s : State) (d : DoubtEntry) :
    (s.addDoubt d).clock = s.clock := rfl

@[simp] theorem State.addDoubt_totals (s : State) (d : DoubtEntry) :
    (s.addDoubt d).totals = s.totals := rfl

@[simp] theorem State.addDoubt_pending (s : State) (d : DoubtEntry) :
    (s.addDoubt d).pending = s.pending := rfl

@[simp] theorem State.addDoubt_sale_queue (s : State) (d : DoubtEntry) :
    (s.addDoubt d).sale.queue = s.sale.queue := rfl

@[simp] theorem State.addDoubt_sale_contexts (s : State) (d : DoubtEntry) :
    (s.addDoubt d).sale.contexts = s.sale.contexts := rfl

@[simp] theorem State.addDoubt_sale_counter (s : State) (d : DoubtEntry) :
    (s.addDoubt d).sale.counter = s.sale.counter := rfl

@[simp] theorem State.addDoubt_sale_timerSetting (s : State) (d : DoubtEntry) :
    (s.addDoubt d).sale.timerSetting = s.sale.timerSetting := rfl

@[simp] theorem State.addDoubt_sale_lastClosed (s : State) (d : DoubtEntry) :
    (s.addDoubt d).sale.lastClosed = s.sale.lastClosed := rfl

@[simp] theorem State.addDoubt_sale_memory (s : State) (d : DoubtEntry) :
    (s.addDoubt d).sale.memory = s.sale.memory := rfl

@[simp] theorem State.addDoubt_sale_credits (s : State) (d : DoubtEntry) :
    (s.addDoubt d).sale.credits = s.sale.credits := rfl

@[simp] theorem State.addDoubt_sale_deliveries (s : State) (d : DoubtEntry) :
    (s.addDoubt d).sale.deliveries = s.sale.deliveries := rfl

@[simp] theorem State.addDoubt_sale_losses (s : State) (d : DoubtEntry) :
    (s.addDoubt d).sale.losses = s.sale.losses := rfl

/-! ### `State.addContext` -/

@[simp] theorem State.addContext_office (s : State) (c : Context) :
    (s.addContext c).office = s.office := rfl

@[simp] theorem State.addContext_hall (s : State) (c : Context) :
    (s.addContext c).hall = s.hall := rfl

@[simp] theorem State.addContext_laneA (s : State) (c : Context) :
    (s.addContext c).laneA = s.laneA := rfl

@[simp] theorem State.addContext_laneB (s : State) (c : Context) :
    (s.addContext c).laneB = s.laneB := rfl

@[simp] theorem State.addContext_decoder (s : State) (c : Context) :
    (s.addContext c).decoder = s.decoder := rfl

@[simp] theorem State.addContext_tariff (s : State) (c : Context) :
    (s.addContext c).tariff = s.tariff := rfl

@[simp] theorem State.addContext_clock (s : State) (c : Context) :
    (s.addContext c).clock = s.clock := rfl

@[simp] theorem State.addContext_totals (s : State) (c : Context) :
    (s.addContext c).totals = s.totals := rfl

@[simp] theorem State.addContext_pending (s : State) (c : Context) :
    (s.addContext c).pending = s.pending := rfl

@[simp] theorem State.addContext_sale_queue (s : State) (c : Context) :
    (s.addContext c).sale.queue = s.sale.queue := rfl

@[simp] theorem State.addContext_sale_timerSetting (s : State) (c : Context) :
    (s.addContext c).sale.timerSetting = s.sale.timerSetting := rfl

@[simp] theorem State.addContext_sale_lastClosed (s : State) (c : Context) :
    (s.addContext c).sale.lastClosed = s.sale.lastClosed := rfl

@[simp] theorem State.addContext_sale_memory (s : State) (c : Context) :
    (s.addContext c).sale.memory = s.sale.memory := rfl

@[simp] theorem State.addContext_sale_doubts (s : State) (c : Context) :
    (s.addContext c).sale.doubts = s.sale.doubts := rfl

@[simp] theorem State.addContext_sale_credits (s : State) (c : Context) :
    (s.addContext c).sale.credits = s.sale.credits := rfl

@[simp] theorem State.addContext_sale_deliveries (s : State) (c : Context) :
    (s.addContext c).sale.deliveries = s.sale.deliveries := rfl

@[simp] theorem State.addContext_sale_losses (s : State) (c : Context) :
    (s.addContext c).sale.losses = s.sale.losses := rfl

/-! ### `State.enqueue` -/

@[simp] theorem State.enqueue_office (s : State) (w : Work) :
    (s.enqueue w).office = s.office := rfl

@[simp] theorem State.enqueue_hall (s : State) (w : Work) :
    (s.enqueue w).hall = s.hall := rfl

@[simp] theorem State.enqueue_laneA (s : State) (w : Work) :
    (s.enqueue w).laneA = s.laneA := rfl

@[simp] theorem State.enqueue_laneB (s : State) (w : Work) :
    (s.enqueue w).laneB = s.laneB := rfl

@[simp] theorem State.enqueue_decoder (s : State) (w : Work) :
    (s.enqueue w).decoder = s.decoder := rfl

@[simp] theorem State.enqueue_tariff (s : State) (w : Work) :
    (s.enqueue w).tariff = s.tariff := rfl

@[simp] theorem State.enqueue_clock (s : State) (w : Work) :
    (s.enqueue w).clock = s.clock := rfl

@[simp] theorem State.enqueue_totals (s : State) (w : Work) :
    (s.enqueue w).totals = s.totals := rfl

@[simp] theorem State.enqueue_pending (s : State) (w : Work) :
    (s.enqueue w).pending = s.pending := rfl

@[simp] theorem State.enqueue_sale_contexts (s : State) (w : Work) :
    (s.enqueue w).sale.contexts = s.sale.contexts := rfl

@[simp] theorem State.enqueue_sale_counter (s : State) (w : Work) :
    (s.enqueue w).sale.counter = s.sale.counter := rfl

@[simp] theorem State.enqueue_sale_timerSetting (s : State) (w : Work) :
    (s.enqueue w).sale.timerSetting = s.sale.timerSetting := rfl

@[simp] theorem State.enqueue_sale_lastClosed (s : State) (w : Work) :
    (s.enqueue w).sale.lastClosed = s.sale.lastClosed := rfl

@[simp] theorem State.enqueue_sale_memory (s : State) (w : Work) :
    (s.enqueue w).sale.memory = s.sale.memory := rfl

@[simp] theorem State.enqueue_sale_doubts (s : State) (w : Work) :
    (s.enqueue w).sale.doubts = s.sale.doubts := rfl

@[simp] theorem State.enqueue_sale_credits (s : State) (w : Work) :
    (s.enqueue w).sale.credits = s.sale.credits := rfl

@[simp] theorem State.enqueue_sale_deliveries (s : State) (w : Work) :
    (s.enqueue w).sale.deliveries = s.sale.deliveries := rfl

@[simp] theorem State.enqueue_sale_losses (s : State) (w : Work) :
    (s.enqueue w).sale.losses = s.sale.losses := rfl

/-! ### `State.handDelivery` -/

@[simp] theorem State.handDelivery_office (s : State) (st : StationId) (n : Option Nat) :
    (s.handDelivery st n).office = s.office := by cases n <;> rfl

@[simp] theorem State.handDelivery_hall (s : State) (st : StationId) (n : Option Nat) :
    (s.handDelivery st n).hall = s.hall := by cases n <;> rfl

@[simp] theorem State.handDelivery_laneA (s : State) (st : StationId) (n : Option Nat) :
    (s.handDelivery st n).laneA = s.laneA := by cases n <;> rfl

@[simp] theorem State.handDelivery_laneB (s : State) (st : StationId) (n : Option Nat) :
    (s.handDelivery st n).laneB = s.laneB := by cases n <;> rfl

@[simp] theorem State.handDelivery_decoder (s : State) (st : StationId) (n : Option Nat) :
    (s.handDelivery st n).decoder = s.decoder := by cases n <;> rfl

@[simp] theorem State.handDelivery_tariff (s : State) (st : StationId) (n : Option Nat) :
    (s.handDelivery st n).tariff = s.tariff := by cases n <;> rfl

@[simp] theorem State.handDelivery_clock (s : State) (st : StationId) (n : Option Nat) :
    (s.handDelivery st n).clock = s.clock := by cases n <;> rfl

@[simp] theorem State.handDelivery_totals (s : State) (st : StationId) (n : Option Nat) :
    (s.handDelivery st n).totals = s.totals := by cases n <;> rfl

@[simp] theorem State.handDelivery_pending (s : State) (st : StationId) (n : Option Nat) :
    (s.handDelivery st n).pending = s.pending := by cases n <;> rfl

@[simp] theorem State.handDelivery_sale_queue (s : State) (st : StationId) (n : Option Nat) :
    (s.handDelivery st n).sale.queue = s.sale.queue := by cases n <;> rfl

@[simp] theorem State.handDelivery_sale_contexts (s : State) (st : StationId) (n : Option Nat) :
    (s.handDelivery st n).sale.contexts = s.sale.contexts := by cases n <;> rfl

@[simp] theorem State.handDelivery_sale_counter (s : State) (st : StationId) (n : Option Nat) :
    (s.handDelivery st n).sale.counter = s.sale.counter := by cases n <;> rfl

@[simp] theorem State.handDelivery_sale_timerSetting (s : State) (st : StationId) (n : Option Nat) :
    (s.handDelivery st n).sale.timerSetting = s.sale.timerSetting := by cases n <;> rfl

@[simp] theorem State.handDelivery_sale_lastClosed (s : State) (st : StationId) (n : Option Nat) :
    (s.handDelivery st n).sale.lastClosed = s.sale.lastClosed := by cases n <;> rfl

@[simp] theorem State.handDelivery_sale_memory (s : State) (st : StationId) (n : Option Nat) :
    (s.handDelivery st n).sale.memory = s.sale.memory := by cases n <;> rfl

@[simp] theorem State.handDelivery_sale_doubts (s : State) (st : StationId) (n : Option Nat) :
    (s.handDelivery st n).sale.doubts = s.sale.doubts := by cases n <;> rfl

@[simp] theorem State.handDelivery_sale_credits (s : State) (st : StationId) (n : Option Nat) :
    (s.handDelivery st n).sale.credits = s.sale.credits := by cases n <;> rfl

@[simp] theorem State.handDelivery_sale_losses (s : State) (st : StationId) (n : Option Nat) :
    (s.handDelivery st n).sale.losses = s.sale.losses := by cases n <;> rfl

/-! ### `State.setReceiver` -/

@[simp] theorem State.setReceiver_hall (s : State) (r : Receiver) :
    (s.setReceiver r).hall = s.hall := rfl

@[simp] theorem State.setReceiver_laneA (s : State) (r : Receiver) :
    (s.setReceiver r).laneA = s.laneA := rfl

@[simp] theorem State.setReceiver_laneB (s : State) (r : Receiver) :
    (s.setReceiver r).laneB = s.laneB := rfl

@[simp] theorem State.setReceiver_sale (s : State) (r : Receiver) :
    (s.setReceiver r).sale = s.sale := rfl

@[simp] theorem State.setReceiver_decoder (s : State) (r : Receiver) :
    (s.setReceiver r).decoder = s.decoder := rfl

@[simp] theorem State.setReceiver_tariff (s : State) (r : Receiver) :
    (s.setReceiver r).tariff = s.tariff := rfl

@[simp] theorem State.setReceiver_clock (s : State) (r : Receiver) :
    (s.setReceiver r).clock = s.clock := rfl

@[simp] theorem State.setReceiver_totals (s : State) (r : Receiver) :
    (s.setReceiver r).totals = s.totals := rfl

@[simp] theorem State.setReceiver_pending (s : State) (r : Receiver) :
    (s.setReceiver r).pending = s.pending := rfl

/-! ### `State.setMode` -/

@[simp] theorem State.setMode_office (s : State) (m : HallMode) :
    (s.setMode m).office = s.office := rfl

@[simp] theorem State.setMode_laneA (s : State) (m : HallMode) :
    (s.setMode m).laneA = s.laneA := rfl

@[simp] theorem State.setMode_laneB (s : State) (m : HallMode) :
    (s.setMode m).laneB = s.laneB := rfl

@[simp] theorem State.setMode_sale (s : State) (m : HallMode) :
    (s.setMode m).sale = s.sale := rfl

@[simp] theorem State.setMode_decoder (s : State) (m : HallMode) :
    (s.setMode m).decoder = s.decoder := rfl

@[simp] theorem State.setMode_tariff (s : State) (m : HallMode) :
    (s.setMode m).tariff = s.tariff := rfl

@[simp] theorem State.setMode_clock (s : State) (m : HallMode) :
    (s.setMode m).clock = s.clock := rfl

@[simp] theorem State.setMode_totals (s : State) (m : HallMode) :
    (s.setMode m).totals = s.totals := rfl

@[simp] theorem State.setMode_pending (s : State) (m : HallMode) :
    (s.setMode m).pending = s.pending := rfl

/-! ### `State.setClosing` -/

@[simp] theorem State.setClosing_hall (s : State) (c : ClosingStart) :
    (s.setClosing c).hall = s.hall := rfl

@[simp] theorem State.setClosing_laneA (s : State) (c : ClosingStart) :
    (s.setClosing c).laneA = s.laneA := rfl

@[simp] theorem State.setClosing_laneB (s : State) (c : ClosingStart) :
    (s.setClosing c).laneB = s.laneB := rfl

@[simp] theorem State.setClosing_sale (s : State) (c : ClosingStart) :
    (s.setClosing c).sale = s.sale := rfl

@[simp] theorem State.setClosing_decoder (s : State) (c : ClosingStart) :
    (s.setClosing c).decoder = s.decoder := rfl

@[simp] theorem State.setClosing_tariff (s : State) (c : ClosingStart) :
    (s.setClosing c).tariff = s.tariff := rfl

@[simp] theorem State.setClosing_clock (s : State) (c : ClosingStart) :
    (s.setClosing c).clock = s.clock := rfl

@[simp] theorem State.setClosing_totals (s : State) (c : ClosingStart) :
    (s.setClosing c).totals = s.totals := rfl

@[simp] theorem State.setClosing_pending (s : State) (c : ClosingStart) :
    (s.setClosing c).pending = s.pending := rfl

/-! ### `State.dequeued` and the requests a block takes -/

@[simp] theorem State.dequeued_office (s : State) :
    s.dequeued.office = s.office := rfl

@[simp] theorem State.dequeued_hall (s : State) :
    s.dequeued.hall = s.hall := rfl

@[simp] theorem State.dequeued_laneA (s : State) :
    s.dequeued.laneA = s.laneA := rfl

@[simp] theorem State.dequeued_laneB (s : State) :
    s.dequeued.laneB = s.laneB := rfl

@[simp] theorem State.dequeued_decoder (s : State) :
    s.dequeued.decoder = s.decoder := rfl

@[simp] theorem State.dequeued_tariff (s : State) :
    s.dequeued.tariff = s.tariff := rfl

@[simp] theorem State.dequeued_clock (s : State) :
    s.dequeued.clock = s.clock := rfl

@[simp] theorem State.dequeued_totals (s : State) :
    s.dequeued.totals = s.totals := rfl

@[simp] theorem State.dequeued_pending (s : State) :
    s.dequeued.pending = s.pending := rfl

@[simp] theorem State.dequeued_sale_contexts (s : State) :
    s.dequeued.sale.contexts = s.sale.contexts := rfl

@[simp] theorem State.dequeued_sale_counter (s : State) :
    s.dequeued.sale.counter = s.sale.counter := rfl

@[simp] theorem State.dequeued_sale_timerSetting (s : State) :
    s.dequeued.sale.timerSetting = s.sale.timerSetting := rfl

@[simp] theorem State.dequeued_sale_lastClosed (s : State) :
    s.dequeued.sale.lastClosed = s.sale.lastClosed := rfl

@[simp] theorem State.dequeued_sale_memory (s : State) :
    s.dequeued.sale.memory = s.sale.memory := rfl

@[simp] theorem State.dequeued_sale_doubts (s : State) :
    s.dequeued.sale.doubts = s.sale.doubts := rfl

@[simp] theorem State.dequeued_sale_credits (s : State) :
    s.dequeued.sale.credits = s.sale.credits := rfl

@[simp] theorem State.dequeued_sale_deliveries (s : State) :
    s.dequeued.sale.deliveries = s.sale.deliveries := rfl

@[simp] theorem State.dequeued_sale_losses (s : State) :
    s.dequeued.sale.losses = s.sale.losses := rfl

@[simp] theorem State.clockTaken_office (s : State) (rest : List Handed) :
    (s.clockTaken rest).office = s.office := rfl

@[simp] theorem State.clockTaken_hall (s : State) (rest : List Handed) :
    (s.clockTaken rest).hall = s.hall := rfl

@[simp] theorem State.clockTaken_laneA (s : State) (rest : List Handed) :
    (s.clockTaken rest).laneA = s.laneA := rfl

@[simp] theorem State.clockTaken_laneB (s : State) (rest : List Handed) :
    (s.clockTaken rest).laneB = s.laneB := rfl

@[simp] theorem State.clockTaken_sale (s : State) (rest : List Handed) :
    (s.clockTaken rest).sale = s.sale := rfl

@[simp] theorem State.clockTaken_decoder (s : State) (rest : List Handed) :
    (s.clockTaken rest).decoder = s.decoder := rfl

@[simp] theorem State.clockTaken_tariff (s : State) (rest : List Handed) :
    (s.clockTaken rest).tariff = s.tariff := rfl

@[simp] theorem State.clockTaken_totals (s : State) (rest : List Handed) :
    (s.clockTaken rest).totals = s.totals := rfl

@[simp] theorem State.clockTaken_pending (s : State) (rest : List Handed) :
    (s.clockTaken rest).pending = s.pending := rfl

@[simp] theorem State.totalsTaken_office (s : State) (rest : List Handed) :
    (s.totalsTaken rest).office = s.office := rfl

@[simp] theorem State.totalsTaken_hall (s : State) (rest : List Handed) :
    (s.totalsTaken rest).hall = s.hall := rfl

@[simp] theorem State.totalsTaken_laneA (s : State) (rest : List Handed) :
    (s.totalsTaken rest).laneA = s.laneA := rfl

@[simp] theorem State.totalsTaken_laneB (s : State) (rest : List Handed) :
    (s.totalsTaken rest).laneB = s.laneB := rfl

@[simp] theorem State.totalsTaken_sale (s : State) (rest : List Handed) :
    (s.totalsTaken rest).sale = s.sale := rfl

@[simp] theorem State.totalsTaken_decoder (s : State) (rest : List Handed) :
    (s.totalsTaken rest).decoder = s.decoder := rfl

@[simp] theorem State.totalsTaken_tariff (s : State) (rest : List Handed) :
    (s.totalsTaken rest).tariff = s.tariff := rfl

@[simp] theorem State.totalsTaken_clock (s : State) (rest : List Handed) :
    (s.totalsTaken rest).clock = s.clock := rfl

@[simp] theorem State.totalsTaken_pending (s : State) (rest : List Handed) :
    (s.totalsTaken rest).pending = s.pending := rfl

@[simp] theorem State.hallTaken_office (s : State) (rest : List Handed) :
    (s.hallTaken rest).office = s.office := rfl

@[simp] theorem State.hallTaken_laneA (s : State) (rest : List Handed) :
    (s.hallTaken rest).laneA = s.laneA := rfl

@[simp] theorem State.hallTaken_laneB (s : State) (rest : List Handed) :
    (s.hallTaken rest).laneB = s.laneB := rfl

@[simp] theorem State.hallTaken_sale (s : State) (rest : List Handed) :
    (s.hallTaken rest).sale = s.sale := rfl

@[simp] theorem State.hallTaken_decoder (s : State) (rest : List Handed) :
    (s.hallTaken rest).decoder = s.decoder := rfl

@[simp] theorem State.hallTaken_tariff (s : State) (rest : List Handed) :
    (s.hallTaken rest).tariff = s.tariff := rfl

@[simp] theorem State.hallTaken_clock (s : State) (rest : List Handed) :
    (s.hallTaken rest).clock = s.clock := rfl

@[simp] theorem State.hallTaken_totals (s : State) (rest : List Handed) :
    (s.hallTaken rest).totals = s.totals := rfl

@[simp] theorem State.hallTaken_pending (s : State) (rest : List Handed) :
    (s.hallTaken rest).pending = s.pending := rfl

end Sys2Proof.Machine
end

