-- ==== Sys2Proof/Laws/Word.lean ====
section
/-! SUPPORT. The laws of the two fixed tables. -/

namespace Sys2Proof

variable {α β : Type}

@[simp] theorem Eight.get_set_self (t : Eight α) (i : Fin 8) (x : α) : (t.set i x).get i = x := by
  fin_cases i <;> rfl

@[simp] theorem Eight.get_set_other (t : Eight α) {i j : Fin 8} (h : j ≠ i) (x : α) :
    (t.set i x).get j = t.get j := by
  fin_cases i <;> fin_cases j <;> first | rfl | exact absurd rfl h

theorem Eight.get_set (t : Eight α) (i j : Fin 8) (x : α) :
    (t.set i x).get j = if j = i then x else t.get j := by
  split
  · subst j; simp
  · simp [*]

@[simp] theorem Eight.get_fill (x : α) (i : Fin 8) : (Eight.fill x).get i = x := by
  fin_cases i <;> rfl

@[simp] theorem Eight.get_map (f : α → β) (t : Eight α) (i : Fin 8) : (t.map f).get i = f (t.get i) := by
  fin_cases i <;> rfl

theorem Eight.ext_get {t u : Eight α} (h : ∀ i, t.get i = u.get i) : t = u := by
  cases t; cases u
  simp only [Eight.mk.injEq]
  exact ⟨h 0, h 1, h 2, h 3, h 4, h 5, h 6, h 7⟩

theorem Eight.mem_toList {t : Eight α} {x : α} : x ∈ t.toList ↔ ∃ i, t.get i = x := by
  constructor
  · intro h
    simp only [Eight.toList, List.mem_cons, List.not_mem_nil, or_false] at h
    rcases h with h | h | h | h | h | h | h | h
    · exact ⟨0, h.symm⟩
    · exact ⟨1, h.symm⟩
    · exact ⟨2, h.symm⟩
    · exact ⟨3, h.symm⟩
    · exact ⟨4, h.symm⟩
    · exact ⟨5, h.symm⟩
    · exact ⟨6, h.symm⟩
    · exact ⟨7, h.symm⟩
  · rintro ⟨i, rfl⟩
    fin_cases i <;> simp [Eight.toList, Eight.get]

@[simp] theorem Sixteen.getN_setN_self (t : Sixteen α) (n : Fin 16) (x : α) :
    (t.setN n x).getN n = x := by
  unfold Sixteen.setN Sixteen.getN
  split <;> simp

theorem Sixteen.getN_setN_other (t : Sixteen α) {m n : Fin 16} (h : m ≠ n) (x : α) :
    (t.setN n x).getN m = t.getN m := by
  have hne : m.val ≠ n.val := fun e => h (Fin.ext e)
  unfold Sixteen.setN Sixteen.getN
  by_cases hn : n.val < 8 <;> by_cases hm : m.val < 8 <;> simp only [hn, hm, dite_true, dite_false]
  · exact Eight.get_set_other _ (fun e => hne (Fin.mk.inj e)) _
  · exact Eight.get_set_other _ (fun e => hne (by have := Fin.mk.inj e; omega)) _

@[simp] theorem Sixteen.lo_fill (x : α) : (Sixteen.fill x).lo = Eight.fill x := rfl

@[simp] theorem Sixteen.hi_fill (x : α) : (Sixteen.fill x).hi = Eight.fill x := rfl

end Sys2Proof
end

