-- ==== Sys2Proof/Laws/Ops.lean ====
section
/-! SUPPORT. One lemma for each shared operation, saying what it does. -/

namespace Sys2Proof.Machine

open Sys2Proof

/-! ### Steps -/

theorem step_cons (c : Instr) (rest : List Instr) (s : State) :
    step { s with pending := c :: rest } = exec c { s with pending := rest } := rfl

theorem whenRunning_running {s : State} (h : s.running = true) (t : State) :
    whenRunning s t = .next t := by simp [whenRunning, h]

theorem whenRunning_stopped {s : State} (h : s.running = false) (t : State) :
    whenRunning s t = .next s := by simp [whenRunning, h]

/-- A command taken only while the part runs answers its effect, or the state as it was. -/
theorem whenRunning_next {s t u : State} (h : whenRunning s t = .next u) :
    (s.running = true ∧ u = t) ∨ (s.running = false ∧ u = s) := by
  unfold whenRunning at h
  cases hr : s.running <;> simp [hr] at h <;> simp [h]

theorem whenStarted_started {s : State} (h : s.started = true) (t : State) :
    whenStarted s t = .next t := by simp [whenStarted, h]

theorem whenStarted_stopped {s : State} (h : s.started = false) (t : State) :
    whenStarted s t = .next s := by simp [whenStarted, h]

/-- A command that step 4 of a warm start needs answers its effect, or the state as it was. -/
theorem whenStarted_next {s t u : State} (h : whenStarted s t = .next u) :
    (s.started = true ∧ u = t) ∨ (s.started = false ∧ u = s) := by
  unfold whenStarted at h
  cases hr : s.started <;> simp [hr] at h <;> simp [h]

/-- What running is: the part does not stand still, and no event of a warm start waits. -/
theorem running_iff {s : State} :
    s.running = true ↔ s.started = true ∧ s.settling = false := by
  simp [State.running]

theorem started_of_running {s : State} (h : s.running = true) : s.started = true := (running_iff.1 h).1

/-- The event that a warm start's recomputation raises holds the part back. -/
theorem settling_iff {s : State} :
    s.settling = true ↔
      (∃ e ∈ s.tariff.boundary, e.cause = .warmStart) ∨ ∃ e ∈ s.totals.boundary, e.cause = .warmStart := by
  simp [State.settling, BoundaryEvent.ofStart]

/-! ### Lanes and stations -/

@[simp] theorem lane_setLane (s : State) (l : Lane) (x : LaneControl) : (s.setLane l x).lane l = x := by
  cases l <;> rfl

theorem lane_setLane_other (s : State) {l m : Lane} (h : m ≠ l) (x : LaneControl) :
    (s.setLane l x).lane m = s.lane m := by
  cases l <;> cases m <;> first | rfl | exact absurd rfl h

@[simp] theorem station_setStation (s : State) (st : StationId) (r : StationRecord) :
    (s.setStation st r).station st = r := by
  simp [State.station, State.setStation, LaneControl.setStation]

theorem station_setStation_other (s : State) {st su : StationId} (h : su ≠ st) (r : StationRecord) :
    (s.setStation st r).station su = s.station su := by
  by_cases hl : su.lane = st.lane
  · have ha : su.addr ≠ st.addr := fun ha => h (by cases su; cases st; simp_all)
    simp [State.station, State.setStation, LaneControl.setStation, hl, ha]
  · simp [State.station, State.setStation, lane_setLane_other s hl]

@[simp] theorem station_queueReport (s : State) (r : Report) (st : StationId) :
    (s.queueReport r).station st = s.station st := by
  cases st with | mk l a => cases l <;> rfl

@[simp] theorem station_reply (s : State) (h : Handed) (r : HostReply) (st : StationId) :
    (s.reply h r).station st = s.station st := by
  cases st with | mk l a => cases l <;> rfl

theorem station_contextEnded_flag (s : State) (st : StationId) :
    ((s.contextEnded st).station st).contextFlag = none := by
  simp only [State.contextEnded]
  split <;> simp

theorem station_contextEnded_other (s : State) {st su : StationId} (h : su ≠ st) :
    (s.contextEnded st).station su = s.station su := by
  simp only [State.contextEnded]
  split <;> simp [station_setStation_other _ h]

theorem station_contextOpened_flag (s : State) (st : StationId) (n : Nat) :
    ((s.contextOpened st n).station st).contextFlag = some n := by
  have hl : ∀ (t : State) (x : Loss), (t.handLoss x).station st = t.station st := by
    intro t x; cases st with | mk l a => cases l <;> rfl
  simp only [State.contextOpened]
  split <;> simp [hl]

/-- R155: what becomes of a record when its station is handed a reply. -/
theorem takeReply_cases (r : StationRecord) (n : Byte) (reply : StationReply) :
    r.takeReply n reply = r ∨ r.takeReply n reply = { r with outstanding := none } ∨
      r.takeReply n reply = { r with slot := some ⟨n, reply, false⟩ } := by
  unfold StationRecord.takeReply
  split
  · exact .inl rfl
  · split
    · exact .inr (.inl rfl)
    · split
      · exact .inr (.inr rfl)
      · exact .inl rfl

/-! ### Reports -/

theorem queueReport_room (o : OfficeLink) (r : Report) (h : o.reports.length < Config.reportQueueSize) :
    o.queueReport r = { o with reports := o.reports ++ [r] } := by
  unfold OfficeLink.queueReport
  rw [if_pos h]

theorem queueReport_full (o : OfficeLink) (r : Report) (h : Config.reportQueueSize ≤ o.reports.length) :
    o.queueReport r =
      { o with overflow := true, sending := o.sending.map fun x => { x with dropped := true } } := by
  unfold OfficeLink.queueReport
  rw [if_neg (by omega)]

theorem queueReport_bounded (o : OfficeLink) (r : Report)
    (h : o.reports.length ≤ Config.reportQueueSize) :
    (o.queueReport r).reports.length ≤ Config.reportQueueSize := by
  unfold OfficeLink.queueReport
  split
  · simp only [List.length_append, List.length_singleton]; omega
  · exact h

@[simp] theorem queueReport_tags (o : OfficeLink) (r : Report) : (o.queueReport r).tags = o.tags := by
  unfold OfficeLink.queueReport; split <;> rfl

@[simp] theorem queueReport_replies (o : OfficeLink) (r : Report) :
    (o.queueReport r).replies = o.replies := by
  unfold OfficeLink.queueReport; split <;> rfl

@[simp] theorem queueReport_refusals (o : OfficeLink) (r : Report) :
    (o.queueReport r).refusals = o.refusals := by
  unfold OfficeLink.queueReport; split <;> rfl

@[simp] theorem queueReport_closing (o : OfficeLink) (r : Report) :
    (o.queueReport r).closing = o.closing := by
  unfold OfficeLink.queueReport; split <;> rfl

@[simp] theorem queueReport_receiver (o : OfficeLink) (r : Report) :
    (o.queueReport r).receiver = o.receiver := by
  unfold OfficeLink.queueReport; split <;> rfl

/-! ### The work queue -/

/-- The entry taken leaves the queue, and only it. -/
theorem nextWork_perm {q : List Work} {w : Work} (h : nextWork q = some w) :
    q.Perm (w :: withoutNext q) := by
  unfold nextWork at h
  unfold withoutNext
  cases hf : q.find? Work.high with
  | some v =>
    have hv : v ∈ q := List.mem_of_find?_eq_some hf
    have hh : Work.high v = true := List.find?_some hf
    have hany : q.any Work.high = true := List.any_eq_true.mpr ⟨v, hv, hh⟩
    rw [hf] at h
    obtain rfl : v = w := by simpa using h
    rw [if_pos hany]
    clear h hany hv
    induction q with
    | nil => simp at hf
    | cons a q ih =>
      by_cases ha : Work.high a = true
      · simp only [List.find?_cons_of_pos ha, Option.some.injEq] at hf
        subst hf
        simp [ha]
      · rw [List.find?_cons_of_neg ha] at hf
        rw [List.eraseP_cons_of_neg ha]
        exact ((ih hf).cons a).trans (List.Perm.swap v a _)
  | none =>
    rw [hf] at h
    have hany : q.any Work.high ≠ true := by
      intro hany
      obtain ⟨x, hx, hh⟩ := List.any_eq_true.mp hany
      exact List.find?_eq_none.mp hf x hx hh
    rw [if_neg hany]
    cases q with
    | nil => simp at h
    | cons a q =>
      obtain rfl : a = w := by simpa using h
      exact List.Perm.refl _

/-! ### Credit orders -/

theorem mem_removeOrders {ids : List Nat} {credits : List CreditOrder} {o : CreditOrder} :
    o ∈ removeOrders ids credits ↔ o ∈ credits ∧ o.id ∉ ids := by
  simp [removeOrders]

theorem ids_returnOrders (ids : List Nat) (credits : List CreditOrder) :
    (returnOrders ids credits).map (·.id) = credits.map (·.id) := by
  simp only [returnOrders, List.map_map]
  refine List.map_congr_left fun o _ => ?_
  simp only [Function.comp_apply]
  split <;> rfl

theorem ids_rideOrders (ids : List Nat) (n : Nat) (credits : List CreditOrder) :
    (rideOrders ids n credits).map (·.id) = credits.map (·.id) := by
  simp only [rideOrders, List.map_map]
  refine List.map_congr_left fun o _ => ?_
  simp only [Function.comp_apply]
  split <;> rfl

theorem chooseOrders_length (b c : Int) (n : Nat) (run : Int) (os : List CreditOrder) :
    (chooseOrders b c n run os).length ≤ n := by
  induction n generalizing run os with
  | zero => simp [chooseOrders]
  | succ n ih =>
    cases os with
    | nil => simp [chooseOrders]
    | cons o os =>
      unfold chooseOrders
      split
      · simpa using ih _ _
      · simp

/-! ### The journal -/

@[simp] theorem append_journal (j : JournalTotals) (t : Time) (b : RecordBody) :
    (j.append t b).journal = j.journal ++ [{ number := j.next, time := t, body := b }] := rfl

@[simp] theorem append_inbox (j : JournalTotals) (t : Time) (b : RecordBody) :
    (j.append t b).inbox = j.inbox := rfl

/-- What an append does to the unit: the append of R178, and R182's mark. -/
theorem appendRecord_totals (s : State) (b : RecordBody) :
    (s.appendRecord b).totals = { s.totals.append s.time b with
      high := s.totals.high || decide (s.totals.journal.length + 1 = Config.journalHighMark) } := by
  simp only [State.appendRecord]
  split
  · rename_i h
    have hl : s.totals.journal.length + 1 = Config.journalHighMark := by simpa using h.2
    simp [State.queueReport, hl]
  · rename_i h
    cases hh : s.totals.high
    · have : ¬ s.totals.journal.length + 1 = Config.journalHighMark := by simpa [hh] using h
      simp only [decide_eq_false this, Bool.or_self]
      simp [JournalTotals.append, hh]
    · simp only [Bool.true_or]
      simp [JournalTotals.append, hh]

/-- R178, R182, R183: what an append leaves in the unit and in the report queue. -/
theorem appendRecord_after (s : State) (b : RecordBody) :
    (s.appendRecord b).totals = s.totalsAfter b ∧
      (s.appendRecord b).office = s.office.reported (s.highReports b) := by
  refine ⟨by rw [appendRecord_totals]; rfl, ?_⟩
  simp only [State.appendRecord, State.highReports, append_journal, List.length_append,
    List.length_singleton, Config.journalHighMark]
  split
  · rename_i h
    simp [OfficeLink.reported, State.queueReport, h.2, State.totalsAfter, JournalTotals.append,
      JournalTotals.oldest, JournalTotals.free]
  · simp [OfficeLink.reported]

theorem free_append {j : JournalTotals} (h : j.Consecutive) (hf : 0 < j.free) (t : Time)
    (b : RecordBody) : (j.append t b).free + 1 = j.free := by
  have h1 := h.next_le
  have h2 := h.next_pos
  unfold JournalTotals.free at *
  cases he : j.exhausted
  · by_cases hn : j.next < Config.lastJournalNumber
    · have hd : decide (Config.lastJournalNumber ≤ j.next) = false := by simpa using hn
      simp only [JournalTotals.append, he, if_pos hn, hd, Bool.or_self, List.length_append,
        List.length_singleton] at *
      simp only [Bool.false_eq_true, if_false] at *
      omega
    · have hd : decide (Config.lastJournalNumber ≤ j.next) = true := by simpa using hn
      simp only [JournalTotals.append, he, hd, Bool.or_true, List.length_append,
        List.length_singleton] at *
      simp only [Bool.false_eq_true, if_false, if_true] at *
      omega
  · simp [he] at hf

/-! ### The period -/

theorem recompute_clock (s : State) (c : BoundaryCause) : (s.recompute c).clock = s.clock.recomputed := by
  simp only [State.recompute]; split <;> rfl

/-- R133: a recomputation raises one event to both units where the stamp moves, and none elsewhere. -/
theorem recompute_events (s : State) (c : BoundaryCause) :
    let e : BoundaryEvent :=
      ⟨s.clock.stamp, s.clock.recomputed.stamp, s.clock.recomputed.kind, c, s.time⟩
    let es := if s.clock.stampMoves then [e] else []
    (s.recompute c).tariff.boundary = s.tariff.boundary ++ es ∧
      (s.recompute c).totals.boundary = s.totals.boundary ++ es := by
  simp only [State.recompute]
  split <;> simp

/-! ### Card Memory -/

theorem mem_insertCard {r x : CardRecord} {m : List CardRecord} :
    x ∈ insertCard r m ↔ x = r ∨ x ∈ m := by
  induction m with
  | nil => simp [insertCard]
  | cons a m ih =>
    unfold insertCard
    split
    · simp
    · simp only [List.mem_cons, ih]
      tauto

theorem length_insertCard (r : CardRecord) (m : List CardRecord) :
    (insertCard r m).length = m.length + 1 := by
  induction m with
  | nil => rfl
  | cons a m ih => unfold insertCard; split <;> simp [ih]

theorem cards_updateCard {m : List CardRecord} {card : Nat} {f : CardRecord → CardRecord}
    (hf : ∀ r, (f r).card = r.card) : (updateCard m card f).map (·.card) = m.map (·.card) := by
  simp only [updateCard, List.map_map]
  refine List.map_congr_left fun r _ => ?_
  simp only [Function.comp_apply]
  split
  · exact hf r
  · rfl

theorem victim_mem {m : List CardRecord} {v : CardRecord} (h : victim m = some v) :
    v ∈ m ∧ v.inUse = none ∧ v.doubt = false := by
  induction m with
  | nil => simp [victim] at h
  | cons r m ih =>
    unfold victim at h
    split at h
    · rename_i hr
      cases hv : victim m with
      | none => simp [hv] at h; subst h; exact ⟨by simp, hr⟩
      | some w =>
        simp only [hv] at h
        split at h
        · simp at h; subst h; exact ⟨by simp [(ih hv).1], (ih hv).2⟩
        · simp at h; subst h; exact ⟨by simp, hr⟩
    · exact ⟨by simp [(ih h).1], (ih h).2⟩

/-! ### Sale numbers -/

theorem nextSaleNumber_range (n : Nat) : 1 ≤ nextSaleNumber n ∧ nextSaleNumber n ≤ 65535 := by
  unfold nextSaleNumber
  split <;> omega

theorem passHeld_range (held : List Nat) (fuel n : Nat) (h : 1 ≤ n ∧ n ≤ 65535) :
    1 ≤ passHeld held fuel n ∧ passHeld held fuel n ≤ 65535 := by
  induction fuel generalizing n with
  | zero => exact h
  | succ k ih =>
    unfold passHeld
    split
    · exact ih _ (nextSaleNumber_range n)
    · exact h

/-! ### The Stop List -/

theorem mem_insertAscending {n m : Nat} {l : List Nat} : m ∈ insertAscending n l ↔ m = n ∨ m ∈ l := by
  induction l with
  | nil => simp [insertAscending]
  | cons a l ih =>
    unfold insertAscending
    split
    · simp
    · simp only [List.mem_cons, ih]; tauto

theorem length_insertAscending (n : Nat) (l : List Nat) :
    (insertAscending n l).length = l.length + 1 := by
  induction l with
  | nil => rfl
  | cons a l ih => unfold insertAscending; split <;> simp [ih]

theorem insertAscending_pairwise {n : Nat} {l : List Nat} (h : l.Pairwise (· < ·)) (hn : n ∉ l) :
    (insertAscending n l).Pairwise (· < ·) := by
  induction l with
  | nil => simp [insertAscending]
  | cons a l ih =>
    rw [List.pairwise_cons] at h
    unfold insertAscending
    split
    · rename_i hlt
      refine List.pairwise_cons.mpr ⟨fun x hx => ?_, List.pairwise_cons.mpr h⟩
      rcases List.mem_cons.mp hx with rfl | hx
      · exact hlt
      · exact lt_trans hlt (h.1 x hx)
    · rename_i hle
      have hne : n ≠ a := fun e => hn (by simp [e])
      refine List.pairwise_cons.mpr ⟨fun x hx => ?_, ih h.2 fun hx => hn (by simp [hx])⟩
      rcases mem_insertAscending.mp hx with rfl | hx
      · omega
      · exact h.1 x hx

end Sys2Proof.Machine
end

