-- ==== Sys2Proof/Laws/Frames.lean ====
section
/-! SUPPORT. One lemma for each operation that lays frames out or reads them, and for the changes of a
station's record. -/

namespace Sys2Proof.Machine

open Sys2Proof

/-! ### Reading a request (13 R198) -/

/-- What a frame gives the office link: the request it reads as, with every enumerated value in its list, and
that request's owner. -/
theorem readFrame_some {f : TakenFrame} {reading : Option HostRequest} {r : HostRequest} {o : Owner} :
    readFrame f reading = some (r, o) ↔
      readBody f.kind f.body reading = some r ∧ r.enumerated = true ∧ r.owner = some o := by
  unfold readFrame
  cases readBody f.kind f.body reading with
  | none => simp
  | some x =>
    by_cases h : x.enumerated = true
    · simp only [h, if_true, Option.map_eq_some_iff, Prod.mk.injEq, Option.some.injEq]
      constructor
      · rintro ⟨a, ha, rfl, rfl⟩
        exact ⟨rfl, h, ha⟩
      · rintro ⟨rfl, -, ho⟩
        exact ⟨o, ho, rfl, rfl⟩
    · simp only [h, Option.some.injEq]
      constructor
      · intro hx; cases hx
      · rintro ⟨rfl, hx, -⟩
        exact absurd hx h

theorem readFrom_fits {r : HostRequest} {body : List Byte} (h : r.readFrom body = true) : r.fits = true := by
  simp only [HostRequest.readFrom, Bool.and_eq_true] at h
  exact h.1

/-- A fixed figure at the front of a body takes exactly its own bytes. -/
theorem fieldsTake_figure {bs : List Byte} {fs : List BodyField} {body : List Byte} :
    fieldsTake (.figure bs :: fs) body = true ↔ ∃ rest, body = bs ++ rest ∧ fieldsTake fs rest = true := by
  simp only [fieldsTake, List.any_eq_true, List.mem_range, BodyField.takes, Bool.and_eq_true,
    decide_eq_true_eq]
  constructor
  · rintro ⟨k, -, hk, h⟩
    exact ⟨body.drop k, by rw [← hk, List.take_append_drop], h⟩
  · rintro ⟨rest, rfl, h⟩
    exact ⟨bs.length, by simp, by simp, by simpa using h⟩

/-- Fixed figures alone take their own bytes, one after another. -/
theorem fieldsTake_figures {bss : List (List Byte)} {body : List Byte} :
    fieldsTake (bss.map .figure) body = true ↔ body = bss.flatten := by
  induction bss generalizing body with
  | nil => simp [fieldsTake]
  | cons bs bss ih =>
    simp only [List.map_cons, fieldsTake_figure, ih, List.flatten_cons]
    exact ⟨fun ⟨_, h, e⟩ => e ▸ h, fun h => ⟨_, h, rfl⟩⟩

theorem stationOf_code {b : Byte} {st : StationId} (h : some st = stationOf b) : b = stationCode st := by
  unfold stationOf at h
  split at h
  · cases h
    apply BitVec.eq_of_toNat_eq
    simp only [stationCode, Fin.val_ofNat, BitVec.toNat_ofNat]
    omega
  · split at h
    · cases h
      apply BitVec.eq_of_toNat_eq
      simp only [stationCode, Fin.val_ofNat, BitVec.toNat_ofNat]
      omega
    · cases h

/-- A station id takes one byte, and the station is the one that byte names. -/
theorem fieldsTake_station {o : Option StationId} {body : List Byte} :
    fieldsTake [bodyStation o] body = true ↔ ∃ b, body = [b] ∧ o = stationOf b := by
  cases o with
  | some st =>
    have h := fieldsTake_figures (bss := [[stationCode st]]) (body := body)
    simp only [List.map_cons, List.map_nil, List.flatten_cons, List.flatten_nil, List.append_nil] at h
    rw [bodyStation, h]
    constructor
    · rintro rfl
      exact ⟨_, rfl, by rcases st with ⟨_ | _, i⟩ <;> revert i <;> decide⟩
    · rintro ⟨b, rfl, e⟩
      rw [stationOf_code e]
  | none =>
    match body with
    | [] => simp [fieldsTake, bodyStation, BodyField.takes]
    | [b] =>
      simp only [List.cons.injEq, and_true, exists_eq_left']
      revert b
      decide +kernel
    | b :: c :: cs =>
      simp only [fieldsTake, bodyStation, List.any_eq_true, List.mem_range, Bool.and_eq_true,
        List.isEmpty_iff, List.drop_eq_nil_iff, List.length_cons, List.cons.injEq, reduceCtorEq, and_false,
        false_and, exists_false, iff_false]
      rintro ⟨k, -, hk, hl⟩
      rw [List.take_of_length_le (by simpa using hl)] at hk
      cases hk

theorem nat16_unsigned (a b : Byte) : nat16 (unsignedOf [a, b]) = [a, b] := by
  have := a.isLt; have := b.isLt
  simp only [nat16, be16, unsignedOf, List.foldl, List.cons.injEq, and_true]
  constructor <;> apply BitVec.eq_of_toNat_eq <;>
    simp only [BitVec.extractLsb'_toNat, BitVec.toNat_ofNat, Nat.shiftRight_eq_div_pow] <;> omega

theorem nat32_unsigned (a b c d : Byte) : nat32 (unsignedOf [a, b, c, d]) = [a, b, c, d] := by
  have := a.isLt; have := b.isLt; have := c.isLt; have := d.isLt
  simp only [nat32, be32, unsignedOf, List.foldl, List.cons.injEq, and_true]
  refine ⟨?_, ?_, ?_, ?_⟩ <;> apply BitVec.eq_of_toNat_eq <;>
    simp only [BitVec.extractLsb'_toNat, BitVec.toNat_ofNat, Nat.shiftRight_eq_div_pow] <;> omega

/-- A value of two bytes is what its two bytes spell, and nothing else. -/
theorem nat16_spells {n : Nat} {x y : Byte} :
    (fits16 n = true ∧ nat16 n = [x, y]) ↔ n = unsignedOf [x, y] := by
  constructor
  · rintro ⟨h, e⟩
    simp only [nat16, be16, List.cons.injEq, and_true] at e
    obtain ⟨rfl, rfl⟩ := e
    simp only [fits16, decide_eq_true_eq] at h
    simp only [unsignedOf, List.foldl, BitVec.extractLsb'_toNat, BitVec.toNat_ofNat,
      Nat.shiftRight_eq_div_pow]
    omega
  · rintro rfl
    refine ⟨?_, nat16_unsigned x y⟩
    have := x.isLt; have := y.isLt
    exact decide_eq_true (by simp only [unsignedOf, List.foldl]; omega)

/-- A value of four bytes is what its four bytes spell, and nothing else. -/
theorem nat32_spells {n : Nat} {a b c d : Byte} :
    (fits32 n = true ∧ nat32 n = [a, b, c, d]) ↔ n = unsignedOf [a, b, c, d] := by
  constructor
  · rintro ⟨h, e⟩
    simp only [nat32, be32, List.cons.injEq, and_true] at e
    obtain ⟨rfl, rfl, rfl, rfl⟩ := e
    simp only [fits32, decide_eq_true_eq] at h
    simp only [unsignedOf, List.foldl, BitVec.extractLsb'_toNat, BitVec.toNat_ofNat,
      Nat.shiftRight_eq_div_pow]
    omega
  · rintro rfl
    refine ⟨?_, nat32_unsigned a b c d⟩
    have := a.isLt; have := b.isLt; have := c.isLt; have := d.isLt
    exact decide_eq_true (by simp only [unsignedOf, List.foldl]; omega)

theorem figure_two {n : Nat} {body : List Byte} :
    (fits16 n = true ∧ body = nat16 n) ↔ ∃ a b, body = [a, b] ∧ n = unsignedOf [a, b] := by
  constructor
  · rintro ⟨h, rfl⟩
    exact ⟨_, _, rfl, nat16_spells.1 ⟨h, rfl⟩⟩
  · rintro ⟨a, b, rfl, e⟩
    exact ⟨(nat16_spells.2 e).1, (nat16_spells.2 e).2.symm⟩

theorem figure_four {n : Nat} {body : List Byte} :
    (fits32 n = true ∧ body = nat32 n) ↔ ∃ a b c d, body = [a, b, c, d] ∧ n = unsignedOf [a, b, c, d] := by
  constructor
  · rintro ⟨h, rfl⟩
    exact ⟨_, _, _, _, rfl, nat32_spells.1 ⟨h, rfl⟩⟩
  · rintro ⟨a, b, c, d, rfl, e⟩
    exact ⟨(nat32_spells.2 e).1, (nat32_spells.2 e).2.symm⟩

theorem fieldsTake_last {bs body : List Byte} : fieldsTake [.figure bs] body = true ↔ body = bs := by
  simpa using fieldsTake_figures (bss := [bs]) (body := body)

theorem spelledBy_kinds (body : List Byte) : ((spelledBy body).map HostRequest.kind).Nodup := by
  have h1 : ([30, 31, 32, 37] : List Byte).Nodup := by decide
  have h1' : ([30, 31, 32, 37, 15] : List Byte).Nodup := by decide
  have h4 : ([2, 4, 17, 24, 36] : List Byte).Nodup := by decide
  unfold spelledBy
  split
  · decide
  · split
    · exact h1'
    · exact h1
  · exact h4
  · exact List.nodup_singleton _
  · exact List.nodup_nil

theorem fieldsTake_two {bs cs body : List Byte} :
    fieldsTake [.figure bs, .figure cs] body = true ↔ body = bs ++ cs := by
  simpa using fieldsTake_figures (bss := [bs, cs]) (body := body)

theorem mem_spelledBy {r : HostRequest} {body : List Byte} :
    r ∈ spelledBy body ↔
      body = [] ∧ r ∈ spelledBy [] ∨ (∃ b, body = [b] ∧ r ∈ spelledBy [b]) ∨
        (∃ a b c d, body = [a, b, c, d] ∧ r ∈ spelledBy [a, b, c, d]) ∨
        ∃ a b c d e f, body = [a, b, c, d, e, f] ∧ r ∈ spelledBy [a, b, c, d, e, f] := by
  match body with
  | [] | [_] | [_, _, _, _] | [_, _, _, _, _, _] => simp
  | [_, _] | [_, _, _] | [_, _, _, _, _] | _ :: _ :: _ :: _ :: _ :: _ :: _ :: _ => simp [spelledBy]

theorem readFrom_empty {r : HostRequest} {body : List Byte} (hf : r.fits = true) (hb : r.bodyFields = []) :
    r.readFrom body = true ↔ body = [] := by
  simp [HostRequest.readFrom, hf, hb, fieldsTake]

theorem readFrom_station {r : HostRequest} {body : List Byte} (o : Option StationId) (hf : r.fits = true)
    (hb : r.bodyFields = [bodyStation o]) :
    r.readFrom body = true ↔ ∃ b, body = [b] ∧ o = stationOf b := by
  rw [HostRequest.readFrom, hf, hb, Bool.true_and, fieldsTake_station]

theorem readFrom_four {r : HostRequest} {body : List Byte} (n : Nat) (hf : r.fits = fits32 n)
    (hb : r.bodyFields = [.figure (nat32 n)]) :
    r.readFrom body = true ↔ ∃ a b c d, body = [a, b, c, d] ∧ n = unsignedOf [a, b, c, d] := by
  rw [HostRequest.readFrom, hf, hb, Bool.and_eq_true, fieldsTake_last, figure_four]

theorem readFrom_setClock {day minute : Nat} {body : List Byte} :
    (HostRequest.setClock day minute).readFrom body = true ↔
      ∃ a b c d, body = [a, b, c, d] ∧ day = unsignedOf [a, b] ∧ minute = unsignedOf [c, d] := by
  rw [HostRequest.readFrom, HostRequest.fits, HostRequest.bodyFields, Bool.and_eq_true, Bool.and_eq_true]
  rw [fieldsTake_two]
  constructor
  · rintro ⟨⟨hd, hm⟩, rfl⟩
    obtain ⟨a, b, e, rfl⟩ := figure_two.1 ⟨hd, rfl⟩
    obtain ⟨c, d, e', rfl⟩ := figure_two.1 ⟨hm, rfl⟩
    exact ⟨a, b, c, d, by simp [e, e'], rfl, rfl⟩
  · rintro ⟨a, b, c, d, rfl, rfl, rfl⟩
    exact ⟨⟨(nat16_spells.2 rfl).1, (nat16_spells.2 rfl).1⟩, by simp [nat16_unsigned]⟩

theorem readFrom_doubtDismiss {card sale : Nat} {body : List Byte} :
    (HostRequest.doubtDismiss card sale).readFrom body = true ↔
      ∃ a b c d e f, body = [a, b, c, d, e, f] ∧ card = unsignedOf [a, b, c, d] ∧
        sale = unsignedOf [e, f] := by
  rw [HostRequest.readFrom, HostRequest.fits, HostRequest.bodyFields, Bool.and_eq_true, Bool.and_eq_true]
  rw [fieldsTake_two]
  constructor
  · rintro ⟨⟨hd, hm⟩, rfl⟩
    obtain ⟨a, b, c, d, h, rfl⟩ := figure_four.1 ⟨hd, rfl⟩
    obtain ⟨e, f, h', rfl⟩ := figure_two.1 ⟨hm, rfl⟩
    exact ⟨a, b, c, d, e, f, by simp [h, h'], rfl, rfl⟩
  · rintro ⟨a, b, c, d, e, f, rfl, rfl, rfl⟩
    exact ⟨⟨(nat32_spells.2 rfl).1, (nat16_spells.2 rfl).1⟩, by simp [nat16_unsigned, nat32_unsigned]⟩

theorem readFrom_rangeDefault {g : Option Nat} {body : List Byte}
    (h : (HostRequest.rangeDefault g).readFrom body = true) :
    g = none ∧ body = [0] ∨ ∃ rest, body = 1 :: rest := by
  rw [HostRequest.readFrom, Bool.and_eq_true] at h
  cases g with
  | none => exact .inl ⟨rfl, fieldsTake_last.1 h.2⟩
  | some n =>
    obtain ⟨rest, rfl, -⟩ := fieldsTake_figure.1 h.2
    exact .inr ⟨rest, rfl⟩

@[simp] theorem bodyStation_fixed (o : Option StationId) : (bodyStation o).fixed = true := by
  cases o <;> rfl

/-- A body spells the requests that R198 fixes whole and that it can be read as. -/
theorem mem_spelledBy_iff {r : HostRequest} {body : List Byte} :
    r ∈ spelledBy body ↔ r.fixed = true ∧ r.readFrom body = true := by
  rw [mem_spelledBy]
  cases r with
  | setClock day minute =>
    rw [readFrom_setClock]; simp [spelledBy, HostRequest.fixed, HostRequest.bodyFields, BodyField.fixed]
  | doubtDismiss card sale =>
    rw [readFrom_doubtDismiss]; simp [spelledBy, HostRequest.fixed, HostRequest.bodyFields, BodyField.fixed]
  | cancelCredit n | queryCard n | classQuery n | journalRelease n =>
    rw [readFrom_four n rfl rfl]; simp [spelledBy, HostRequest.fixed, HostRequest.bodyFields, BodyField.fixed]
  | release o | restore o | clearStationErrors o | totalsRead o =>
    rw [readFrom_station o rfl rfl]; simp [spelledBy, HostRequest.fixed, HostRequest.bodyFields]
  | saleList | stopClear | rangeList | tariffBegin | tariffSwapNow | clockRead | journalFetch | dayClose
  | openHall | suspend | resume | status | softReset =>
    rw [readFrom_empty rfl rfl]; simp [spelledBy, HostRequest.fixed, HostRequest.bodyFields]
  | rangeDefault g =>
    cases g with
    | some n => simp [spelledBy, HostRequest.fixed, HostRequest.bodyFields, BodyField.fixed]
    | none =>
      simp [spelledBy, HostRequest.fixed, HostRequest.bodyFields, BodyField.fixed, HostRequest.readFrom,
        HostRequest.fits, fieldsTake_last]
  | clearAll g =>
    cases g <;> simp [spelledBy, HostRequest.fixed, HostRequest.bodyFields, BodyField.fixed]
  | _ => simp [spelledBy, HostRequest.fixed, HostRequest.bodyFields, BodyField.fixed]

/-- A body spells at most one request of a kind. -/
theorem spelledBy_find {body : List Byte} {r : HostRequest} (h : r ∈ spelledBy body) :
    ((spelledBy body).find? fun x => decide (x.kind = r.kind)) = some r := by
  cases e : (spelledBy body).find? fun x => decide (x.kind = r.kind) with
  | none => simpa using List.find?_eq_none.1 e r h
  | some x =>
    have hx : x.kind = r.kind := by simpa using List.find?_some e
    rw [List.inj_on_of_nodup_map (spelledBy_kinds body) (List.mem_of_find?_eq_some e) h hx]

/-- The kinds that a body can spell. -/
theorem spelledBy_kind {x : HostRequest} {body : List Byte} (hx : x ∈ spelledBy body) :
    x.kind ∈ ([7, 11, 16, 18, 22, 26, 35, 38, 40, 41, 42, 43, 44, 30, 31, 32, 37, 15, 2, 4, 17, 24, 36, 5] :
      List Byte) := by
  have hm := List.mem_map_of_mem (f := HostRequest.kind) hx
  revert hm
  generalize x.kind = k
  unfold spelledBy
  split
  · revert k; decide +kernel
  · split
    · exact (by decide +kernel : ∀ k ∈ ([30, 31, 32, 37, 15] : List Byte), k ∈ _) k
    · exact (by decide +kernel : ∀ k ∈ ([30, 31, 32, 37] : List Byte), k ∈ _) k
  · exact (by decide +kernel : ∀ k ∈ ([2, 4, 17, 24, 36] : List Byte), k ∈ _) k
  · exact (by decide +kernel : ∀ k ∈ ([5] : List Byte), k ∈ _) k
  · exact fun h => absurd h (List.not_mem_nil)

/-- Where a body spells a request, it can be read as no request of that kind that R198 leaves open. -/
theorem fixed_of_spelled {r x : HostRequest} {body : List Byte} (hx : x ∈ spelledBy body)
    (hk : x.kind = r.kind) (hr : r.readFrom body = true) : r.fixed = true := by
  have h := spelledBy_kind hx
  rw [hk] at h
  cases r with
  | rangeDefault g =>
    rcases readFrom_rangeDefault hr with ⟨rfl, -⟩ | ⟨rest, rfl⟩
    · rfl
    · exfalso
      have hm := List.mem_map_of_mem (f := HostRequest.kind) hx
      rw [hk] at hm
      revert hm
      unfold spelledBy
      split
      · exact of_decide_eq_false rfl
      · next e =>
        cases e
        exact of_decide_eq_false rfl
      · exact of_decide_eq_false rfl
      · exact of_decide_eq_false rfl
      · exact of_decide_eq_false rfl
  | release o | restore o | clearStationErrors o | totalsRead o => simp [HostRequest.fixed, HostRequest.bodyFields]
  | _ => first | rfl | exact absurd h (of_decide_eq_false rfl)

/-- What a frame's body is read as: a request of its kind that it can be read as, and that R198 fixes whole or
the operand gives. -/
theorem readBody_some {kind : Byte} {body : List Byte} {reading : Option HostRequest} {r : HostRequest} :
    readBody kind body reading = some r ↔
      r.kind = kind ∧ r.readFrom body = true ∧ (r.fixed = true ∨ reading = some r) := by
  rw [readBody, Option.or_eq_some_iff]
  constructor
  · rintro (e | ⟨-, e⟩)
    · obtain ⟨hf, hr⟩ := mem_spelledBy_iff.1 (List.mem_of_find?_eq_some e)
      exact ⟨by simpa using List.find?_some e, hr, .inl hf⟩
    · simp only [Option.filter_eq_some_iff, Bool.and_eq_true, decide_eq_true_eq] at e
      exact ⟨e.2.1, e.2.2, .inr e.1⟩
  · rintro ⟨rfl, hr, h⟩
    by_cases hf : r.fixed = true
    · exact .inl (spelledBy_find (mem_spelledBy_iff.2 ⟨hf, hr⟩))
    · refine .inr ⟨?_, by simp [h.resolve_left hf, hr]⟩
      rw [List.find?_eq_none]
      intro x hx hk
      exact hf (fixed_of_spelled hx (by simpa using hk) hr)

/-! ### Fields as bytes -/

theorem fieldBytes_append (f : FrameName) (n : Nat) (xs ys : List Field) :
    fieldBytes f n (xs ++ ys) = fieldBytes f n xs ++ fieldBytes f (n + xs.length) ys := by
  induction xs generalizing n with
  | nil => simp [fieldBytes]
  | cons x xs ih => simp [fieldBytes, ih, Nat.add_assoc, Nat.add_comm 1]

/-- Fields that R198 fixes are written the same in every frame and at every place. -/
theorem fieldBytes_fixed (f : FrameName) (n : Nat) (bs : List (List Byte)) :
    fieldBytes f n (bs.map .fixed) = bs.flatten := by
  induction bs generalizing n with
  | nil => rfl
  | cons b bs ih => simp [fieldBytes, Field.bytes, ih]

@[simp] theorem nat16_length (n : Nat) : (nat16 n).length = 2 := rfl
@[simp] theorem nat32_length (n : Nat) : (nat32 n).length = 4 := rfl
@[simp] theorem be16_length (v : BitVec 16) : (be16 v).length = 2 := rfl
@[simp] theorem moneyBytes_length (m : Int) : (moneyBytes m).length = 4 := rfl

theorem flatMap_nat32_length (ids : List Nat) : (ids.flatMap nat32).length = 4 * ids.length := by
  induction ids with
  | nil => rfl
  | cons id ids ih => rw [List.flatMap_cons, List.length_append, ih, nat32_length, List.length_cons]; omega

/-- 13.5: a record takes 55 bytes and 4 for each of its orders. -/
theorem journalRecord_length (r : JournalRecord) : r.bytes.length = 55 + 4 * r.body.creditIds.length := by
  unfold JournalRecord.bytes
  simp only [List.length_append, List.length_cons, List.length_nil, nat16_length, nat32_length, be16_length,
    moneyBytes_length, flatMap_nat32_length]
  omega

/-! ### A station's record -/

/-- R156, R158: a station that goes is ABSENT, holds no reply, and what stays outstanding is orphaned. -/
theorem departed_state (r : StationRecord) (why : GoneCause) :
    (r.departed why).state = .absent ∧ (r.departed why).slot = none ∧
      (r.departed why).contextFlag = r.contextFlag ∧
      ∀ o ∈ (r.departed why).outstanding, o.orphaned = true := by
  cases why <;> simp [StationRecord.departed, StationRecord.madeAbsent, StationRecord.initial]

/-- 10 R165, R167: the scoring of an exchange that passes. -/
theorem passServed_eq (s : State) (st : StationId) (waits : Nat) :
    s.passServed st waits =
      (s.setStation st ((s.station st).passed waits)).queueReports
        ((s.station st).passedReports st s.time) := by
  simp only [State.passServed, StationRecord.passed, StationRecord.passedReports]
  split <;> rfl

/-- 09 R155, R158: the record after the context-ended notice. -/
theorem station_contextEnded (s : State) (st : StationId) :
    (s.contextEnded st).station st = (s.station st).freed := by
  simp only [State.contextEnded, StationRecord.freed, StationRecord.leaves]
  split <;> simp_all

/-- 10 R174: a lane that finds its line stuck waits for it, whether or not it reports. -/
theorem lineStuck_waits {s t : State} {l : Lane} (hr : s.running = true)
    (hm : (s.lane l).mode = .running) (hx : (s.lane l).exchange = none)
    {p : Fin 8 × PollKind} (hp : (s.lane l).readyPoll = some p) (h : execLineStuck l s = .next t) :
    (t.lane l).waiting = some p ∧ (t.lane l).lineStuck = true := by
  simp only [execLineStuck, whenRunning_running hr, hm, hx, hp, and_self, if_true] at h
  cases h
  split <;> cases l <;> simp_all [State.setLane, State.lane, State.queueReport]

end Sys2Proof.Machine
end

