-- ==== Sys2Proof/Laws/PerInstr.lean ====
section
/-! SUPPORT. The family `Encoding`, one lemma for each command: spec/opcode_table.json gives no row any
bits, so no word spells the command. -/

namespace Sys2Proof.Laws.Encoding

open Sys2Proof Sys2Proof.Machine

/-- No word of the table's numbering spells the command. -/
def Statement (i : Instr) : Prop := ∀ nbits w, decodeTableWord nbits w ≠ some i

theorem all (i : Instr) : Statement i := fun _ _ h => nomatch h

theorem officeFrameReceived (bytes : List Byte) (reading : Option HostRequest) : Statement (.officeFrameReceived bytes reading) :=
  all _

theorem officeByteGapTimeout : Statement .officeByteGapTimeout := all _

theorem frameSendStart : Statement .frameSendStart := all _

theorem frameSentInFull : Statement .frameSentInFull := all _

theorem creditOrder : Statement .creditOrder := all _

theorem cancelCredit : Statement .cancelCredit := all _

theorem queryCredits : Statement .queryCredits := all _

theorem queryCard : Statement .queryCard := all _

theorem doubtDismiss : Statement .doubtDismiss := all _

theorem doubtList : Statement .doubtList := all _

theorem saleList : Statement .saleList := all _

theorem writeTimerSet : Statement .writeTimerSet := all _

theorem stopAdd : Statement .stopAdd := all _

theorem stopRemove : Statement .stopRemove := all _

theorem stopClear : Statement .stopClear := all _

theorem stopList : Statement .stopList := all _

theorem rangeSet : Statement .rangeSet := all _

theorem rangeClear : Statement .rangeClear := all _

theorem rangeDefault : Statement .rangeDefault := all _

theorem rangeList : Statement .rangeList := all _

theorem classQuery : Statement .classQuery := all _

theorem tariffBegin : Statement .tariffBegin := all _

theorem tariffItems : Statement .tariffItems := all _

theorem tariffGroup : Statement .tariffGroup := all _

theorem tariffEnd : Statement .tariffEnd := all _

theorem tariffSwapNow : Statement .tariffSwapNow := all _

theorem tariffList : Statement .tariffList := all _

theorem setClock : Statement .setClock := all _

theorem setPeriods : Statement .setPeriods := all _

theorem clockRead : Statement .clockRead := all _

theorem laneSet (lane : Lane) : Statement (.laneSet lane) := all _

theorem laneSettings (lane : Lane) : Statement (.laneSettings lane) := all _

theorem enroll (lane : Lane) : Statement (.enroll lane) := all _

theorem release (lane : Lane) : Statement (.release lane) := all _

theorem restore (lane : Lane) : Statement (.restore lane) := all _

theorem clearStationErrors (lane : Lane) : Statement (.clearStationErrors lane) := all _

theorem clearLineStuck (lane : Lane) : Statement (.clearLineStuck lane) := all _

theorem laneRead (lane : Lane) : Statement (.laneRead lane) := all _

theorem journalFetch : Statement .journalFetch := all _

theorem journalRelease : Statement .journalRelease := all _

theorem totalsRead : Statement .totalsRead := all _

theorem dayClose : Statement .dayClose := all _

theorem setHall : Statement .setHall := all _

theorem openHall : Statement .openHall := all _

theorem suspend : Statement .suspend := all _

theorem resume : Statement .resume := all _

theorem status : Statement .status := all _

theorem softReset : Statement .softReset := all _

theorem clearAll : Statement .clearAll := all _

theorem sendPoll (lane : Lane) : Statement (.sendPoll lane) := all _

theorem laneAnswer (lane : Lane) (bytes : List Byte) : Statement (.laneAnswer lane bytes) := all _

theorem answerTimeout (lane : Lane) : Statement (.answerTimeout lane) := all _

theorem lineStuck (lane : Lane) : Statement (.lineStuck lane) := all _

theorem lineIdleResume (lane : Lane) : Statement (.lineIdleResume lane) := all _

theorem saleOpen : Statement .saleOpen := all _

theorem reverse : Statement .reverse := all _

theorem saleDone : Statement .saleDone := all _

theorem saleTorn : Statement .saleTorn := all _

theorem saleCancel : Statement .saleCancel := all _

theorem deliveryEvent : Statement .deliveryEvent := all _

theorem writeTimerExpiry (sale : Nat) : Statement (.writeTimerExpiry sale) := all _

theorem lossEvent : Statement .lossEvent := all _

theorem minuteAdvance : Statement .minuteAdvance := all _

theorem tariffBoundarySwap : Statement .tariffBoundarySwap := all _

theorem periodCounterCapture : Statement .periodCounterCapture := all _

theorem mainSupplyLoss : Statement .mainSupplyLoss := all _

theorem mainSupplyReturn : Statement .mainSupplyReturn := all _

theorem backupFailure : Statement .backupFailure := all _

theorem resetLineAssert : Statement .resetLineAssert := all _

theorem resetLineRelease : Statement .resetLineRelease := all _

theorem warmStart : Statement .warmStart := all _

theorem coldStart : Statement .coldStart := all _

theorem secondsCountAdvance : Statement .secondsCountAdvance := all _

theorem officeStartMarker : Statement .officeStartMarker := all _

theorem frameLengthOverLimit (length : BitVec 16) : Statement (.frameLengthOverLimit length) :=
  all _

end Sys2Proof.Laws.Encoding
end

