-- ==== Sys2Proof/WellFormed.lean ====
section
/-! DEFINITION. The operands a command may carry. -/

namespace Sys2Proof

open Sys2Proof.Machine

/-- A command's operands are in the ranges their rules give: what a frame's body reads as fits its fields
(13 R198), a sale number is 1 to 65535 (04 R64), and an over-limit length is above 1,024 (12 R188). -/
def Instr.wellFormed : Instr → Bool
  | .officeFrameReceived _ (some r) => r.fits
  | .writeTimerExpiry sale => decide (1 ≤ sale ∧ sale ≤ 65535)
  | .frameLengthOverLimit length => decide (Config.bodyLimit < length.toNat)
  | .officeFrameReceived _ none
  | .officeByteGapTimeout | .frameSendStart | .frameSentInFull | .creditOrder | .cancelCredit
  | .queryCredits | .queryCard | .doubtDismiss | .doubtList | .saleList | .writeTimerSet | .stopAdd
  | .stopRemove | .stopClear | .stopList | .rangeSet | .rangeClear | .rangeDefault | .rangeList
  | .classQuery | .tariffBegin | .tariffItems | .tariffGroup | .tariffEnd | .tariffSwapNow
  | .tariffList | .setClock | .setPeriods | .clockRead | .laneSet _ | .laneSettings _ | .enroll _
  | .release _ | .restore _ | .clearStationErrors _ | .clearLineStuck _ | .laneRead _
  | .journalFetch | .journalRelease | .totalsRead | .dayClose | .setHall | .openHall | .suspend
  | .resume | .status | .softReset | .clearAll | .sendPoll _ | .laneAnswer _ _ | .answerTimeout _
  | .lineStuck _ | .lineIdleResume _ | .saleOpen | .reverse | .saleDone | .saleTorn | .saleCancel
  | .deliveryEvent | .lossEvent | .minuteAdvance | .tariffBoundarySwap | .periodCounterCapture
  | .mainSupplyLoss | .mainSupplyReturn | .backupFailure | .resetLineAssert | .resetLineRelease
  | .warmStart | .coldStart | .secondsCountAdvance | .officeStartMarker => true

end Sys2Proof
end

