-- ==== Sys2Proof/Tests/Slice0.lean ====
section
/-! SUPPORT. Tests against the spec's own worked examples, the smoke test of WellFormed, and for every
obligation with hypotheses a witness that meets them. Expected values are the spec's. -/

namespace Sys2Proof.Tests

open Sys2Proof Sys2Proof.Machine

-- One theorem at a time: each waiting proof would hold a thread of its own.
set_option Elab.async false

/-! ### The hall of 04 §4.12 -/

def stA3 : StationId := ⟨.a, 2⟩
def stB5 : StationId := ⟨.b, 4⟩
def stA1 : StationId := ⟨.a, 0⟩

/-- The state a command answers. -/
def after (i : Instr) (s : State) : State :=
  match exec i s with
  | .next t => t
  | _ => s

def withStation (st : StationId) (r : StationRecord) (s : State) : State := s.setStation st r

def cashierAt (n : Byte) : StationRecord :=
  { StationRecord.initial with
    state := .good, role := some .cashier, lastRequest := some n, outstanding := some ⟨n, false⟩ }

def supervisorAt (n : Byte) : StationRecord := { cashierAt n with role := some .supervisor }

def group2 : GroupFigures := ⟨Eight.fill 2500, Eight.fill 200, 2500, 500⟩

def meal : PriceItem := ⟨1001, 540, Eight.fill true⟩

def dear : PriceItem := ⟨9999, 99999, Eight.fill true⟩

def schedule17 : List PeriodEntry :=
  [⟨0, .meal⟩, ⟨300, .meal⟩, ⟨660, .meal⟩, ⟨870, .meal⟩, ⟨1020, .meal⟩, ⟨1230, .closed⟩]

def tariff17 : TariffUnit :=
  { TariffUnit.initial with
    active := ⟨[meal], (Eight.fill GroupFigures.zero).set 2 group2⟩, generation := 1 }

def clock17 : HallClock :=
  { isSet := true, day := 412, minute := 400, second := 0, schedule := schedule17
    stamp := ⟨412, 1⟩, kind := .meal, inbox := [] }

def decoder17 : Decoder :=
  { stop := [104000, 150211]
    ranges := ((Sixteen.fill none).setN 0 (some ⟨150000, 150499, 3, true, true⟩)).setN 1
      (some ⟨100000, 199999, 2, true, true⟩)
    defaultClass := some 7
    inbox := [] }

def hall17 : State :=
  withStation stB5 (cashierAt 60) <| withStation stA3 (cashierAt 14)
    { State.reset with
      hall := { HallControl.initial with mode := .serving, hallId := some 17 }
      laneA := { LaneControl.initial with mode := .running }
      laneB := { LaneControl.initial with mode := .running }
      sale := { SaleEngine.initial with counter := 2301, credits := [⟨7705, 150600, 500, .pending⟩] }
      decoder := decoder17
      tariff := tariff17
      clock := clock17 }

def sealedIdentity (i : IdentityBlock) : IdentityBlock := { i with check := crc8 i.body }

def slot212 : PurseSlot :=
  PurseSlot.sealed
    { sequence := 212, balance := 800, writerHall := 17, writerSale := 2000, stampDay := 412
      allowanceUsed := 0, stampPeriod := 1, spendToday := 0, check := 0 }

def cardOf (n : BitVec 32) (p : Option PurseSlot) : CardImage :=
  { identity := sealedIdentity { card := n, issueDay := 412, kind := 0, check := 0 }
    slot0 := p, slot1 := none }

def card150600 : CardImage := cardOf 150600 (some slot212)

def basket : List BasketLine := [⟨1001, 1⟩]

/-- `hall17` with work waiting for the engine. -/
def queued (w : List Work) : State := { hall17 with sale := { hall17.sale with queue := w } }

def askA3 (q : StationRequest) : State := queued [.station stA3 14 q]

/-! ### The spec's worked examples -/

/-- 13 R199: the two checks over "123456789". -/
theorem test_crc8 : crc8 [49, 50, 51, 52, 53, 54, 55, 56, 57] = 244 := by decide +kernel

theorem test_crc16 : crc16 [49, 50, 51, 52, 53, 54, 55, 56, 57] = 10673 := by decide +kernel

/-- 08 R130: the two schedules. -/
theorem test_schedule :
    [0, 299, 300, 1019, 1020, 1439].map (fun m => (currentIndex schedule17 m, currentKind schedule17 m)) =
      [(0, .meal), (0, .meal), (1, .meal), (3, .meal), (4, .meal), (5, .closed)] ∧
    [0, 329, 330, 700, 1439].map (currentIndex
      [⟨330, .meal⟩, ⟨480, .closed⟩, ⟨690, .meal⟩, ⟨900, .closed⟩, ⟨1110, .meal⟩]) =
      [4, 4, 0, 2, 4] := by decide +kernel

/-- 03 §3.8: the decodes of hall 17. -/
theorem test_decode :
    [150211, 150212, 150500, 199999, 200000].map decoder17.decode =
      [.stopped, .purse 3 true 0, .purse 2 true 1, .purse 2 true 1, .cashOnly 7 none] := by
  decide +kernel

/-- 03 §3.8: STOP_ADD 150,211; 104,000; 150,211 on an empty list. -/
theorem test_stopAdd :
    stopAddAll [] [150211, 104000, 150211] = ([104000, 150211], [.added, .added, .already]) := by
  decide +kernel

/-- 01 §1.11: the new slots of presentations 1 and 3, and the current slot between them. -/
theorem test_fillSlot :
    let p0 := PurseSlot.sealed ⟨65534, 2000, 0, 0, 300, 0, 0, 0, 0⟩
    let p1 := fillSlot 65534 1674 17 40 ⟨301, 2⟩
      (newAllowance (takenAllowance p0 ⟨301, 2⟩) 300) (newSpend (takenSpend p0 ⟨301, 2⟩) 326)
    let p3 := fillSlot 65535 2524 17 42 ⟨301, 4⟩
      (newAllowance (takenAllowance p1 ⟨301, 4⟩) 0) (newSpend (takenSpend p1 ⟨301, 4⟩) 150)
    p1 = PurseSlot.sealed ⟨65535, 1674, 17, 40, 301, 300, 2, 326, 0⟩ ∧
    p3 = PurseSlot.sealed ⟨0, 2524, 17, 42, 301, 0, 4, 476, 0⟩ ∧
    selectSlot ⟨card150600.identity, some p0, some p1⟩ = .current p1 .zero ∧
    selectSlot ⟨card150600.identity, some p3, some p1⟩ = .current p3 .one := by decide +kernel

/-- 04 §4.12 event 3: the sale of card 150,600 is priced and opens context 2301. -/
def sold : State := after .saleOpen (askA3 (.saleOpen card150600 basket))

theorem test_saleOpen_context :
    sold.sale.contexts.map (fun c => (c.data.sale, c.data.figures, c.data.riding, c.data.newBalance)) =
      [(2301, ⟨540, 135, 200, 205, 500⟩, [7705], 1095)] ∧
    sold.sale.counter = 2302 ∧
    sold.sale.credits.map (·.state) = [.riding 2301] := by decide +kernel

theorem test_saleOpen_slot :
    sold.sale.contexts.map (fun c => (c.slot, c.state)) =
      [(PurseSlot.sealed ⟨213, 1095, 17, 2301, 412, 200, 1, 205, 0⟩, .pricedUnsent)] ∧
    ((sold.station stA3).slot.map (·.reply.word)) = some .writeOrder := by decide +kernel

/-- 04 §4.12 event 4: the poll carries the WRITE_ORDER and its delivery event starts the timer. -/
def polled : State :=
  after .deliveryEvent (after (.sendPoll .a)
    { sold with laneA := { sold.laneA with position := some 2 } })

theorem test_delivery :
    polled.sale.contexts.map (·.state) = [.writeOrdered 20] ∧
    (polled.station stA3).slot.map (·.sent) = some true := by decide +kernel

/-- 04 §4.12 event 6: CREDIT_ORDER tag 5. -/
theorem test_creditOrder :
    let t := after .creditOrder { sold with sale := { sold.sale with
      queue := [.host ⟨5, .creditOrder 7710 150600 1000⟩] } }
    t.sale.credits.map (fun o => (o.id, o.state)) = [(7705, .riding 2301), (7710, .pending)] ∧
    t.office.replies.map (fun r => (r.tag, r.reply.word)) = [(5, .ok)] := by decide +kernel

/-- 04 §4.12 event 7: B5's request meets the context of A3. -/
theorem test_cardInUse :
    ((after .saleOpen { sold with sale := { sold.sale with
      queue := [.station stB5 60 (.saleOpen card150600 basket)] } }).station stB5).slot =
      some ⟨60, .cardInUse stA3 2301, false⟩ := by decide +kernel

/-- 04 §4.12 event 11: A3 cancels, and order 7705 is PENDING again. -/
theorem test_saleCancel :
    let t := after .saleCancel { polled with sale := { polled.sale with
      queue := [.station stA3 15 (.saleCancel 2301)] } }
    t.sale.contexts = [] ∧ t.sale.credits.map (·.state) = [.pending] ∧
    stationGet t.sale.lastClosed stA3 = some ⟨2301, .voided⟩ ∧ t.totals.journal = [] := by
  decide +kernel

/-- 04 R78: a commit, as event 16 has it for one order. -/
def committed : State :=
  after .saleDone { polled with sale := { polled.sale with
    queue := [.station stA3 15 (.saleDone 2301)] } }

theorem test_saleDone :
    committed.sale.contexts = [] ∧ committed.sale.credits = [] ∧
    committed.totals.journal.map (fun r => (r.number, r.body.g, r.body.c, r.body.creditIds)) =
      [(1, 540, 205, [7705])] ∧
    committed.totals.journal.map (fun r => (r.body.balanceAfter, r.body.sequenceAfter)) =
      [(some 1095, some 213)] ∧
    committed.office.reports.map Report.kind = [73] := by decide +kernel

theorem test_saleDone_totals :
    stationGet committed.totals.period stA3 = ⟨1, 205, 135, 200, 500, 0, 0, 0, 0⟩ ∧
    stationGet committed.totals.daily stA3 = ⟨1, 205, 135, 200, 500, 0, 0, 0, 0⟩ := by decide +kernel

/-- 04 R75, R79: the timer's expiry moves the context to doubt, and a SALE_TORN does. -/
def doubted : State :=
  after .saleTorn { polled with sale := { polled.sale with
    queue := [.station stA3 15 (.saleTorn 2301)] } }

theorem test_saleTorn :
    doubted.sale.doubts.map (fun d => (d.data.sale, d.cause)) = [(2301, .torn)] ∧
    doubted.sale.credits.map (·.state) = [.riding 2301] ∧
    doubted.sale.memory.map (fun r => (r.card, r.doubt, r.inUse)) = [(150600, true, none)] := by
  decide +kernel

theorem test_writeTimerExpiry :
    let t := (List.range 20).foldl (fun s _ => after .secondsCountAdvance s) polled
    (after (.writeTimerExpiry 2301) t).sale.doubts.map (fun d => (d.data.sale, d.cause)) =
      [(2301, .timer)] := by decide +kernel

/-- The last paragraph of 04 §4.12: the unwritten card resolves NOT_HAPPENED and sells again. -/
theorem test_doubt_notHappened :
    let t := after .saleOpen { doubted with sale := { doubted.sale with
      queue := [.station stB5 60 (.saleOpen card150600 basket)] } }
    t.totals.journal.map (fun r => (r.body.sale, r.body.outcome)) = [(2301, .voidedAfterDoubt)] ∧
    t.sale.contexts.map (fun c => (c.data.sale, c.data.riding)) = [(2302, [7705])] ∧
    t.sale.doubts = [] := by decide +kernel

/-- The card as A3's write leaves it. -/
def card213 : CardImage := { card150600 with slot1 := (sold.sale.contexts.head?.map (·.slot)) }

/-- 05 R92: the written card resolves HAPPENED, counted late. -/
theorem test_doubt_happened :
    let t := after .saleOpen { doubted with sale := { doubted.sale with
      queue := [.station stB5 60 (.saleOpen card213 [])] } }
    t.totals.journal.map (fun r => (r.body.sale, r.body.outcome)) = [(2301, .committedLate)] ∧
    (t.station stB5).slot.map (·.reply) = some (.balance 1095 0 205 (some 2295) 500) := by
  decide +kernel

/-- 02 R38, R39: the reversal of the committed sale gives its charge and allowance back. -/
def reversing : State :=
  withStation stB5 (supervisorAt 60)
    { committed with sale := { committed.sale with queue := [.station stB5 60 (.reverse card213)] } }

theorem test_reverse :
    (after .reverse reversing).sale.contexts.map
      (fun c => (c.data.kind, c.data.figures, c.data.newBalance, c.data.reversed)) =
      [(.reversal, ⟨-405, 0, -200, -205, 0⟩, 1300, some 1)] := by decide +kernel

/-- 02 R25's table. -/
theorem test_subsidy :
    [(835, 2500), (835, 5000), (1, 5000), (1, 4999), (999999, 10000), (640, 0)].map
      (fun x => subsidyOf x.1 x.2) = [209, 418, 1, 0, 999999, 0] := by decide +kernel

/-- 11 §11.8: the marks at 1,792 and below 1,536, on a journal made of one record repeated. -/
theorem test_journalHigh :
    let b := cashRecord stB5 1 .staff hall17.consult 465 116 349
    let j : JournalTotals := { JournalTotals.initial with
      next := 61792, journal := (List.range' 60001 1791).map fun n => ⟨n, ⟨421, 880⟩, b⟩ }
    let t := { hall17 with totals := j }.appendRecord b
    (t.totals.high, t.totals.free, t.totals.journal.length) = (true, 256, 1792) ∧
    t.office.reports = [.journalHigh 1792 60001 61792 256 hall17.time] ∧
    ((t.totals.release 60200).1.high, (t.totals.release 60200).1.free) = (true, 456) ∧
    (t.totals.release 60260).1.high = false := by decide +kernel

/-! ### WellFormed -/

theorem test_wellFormed :
    Instr.wellFormed (.officeFrameReceived [] (some (.journalRelease 4294967296))) = false ∧
    Instr.wellFormed (.writeTimerExpiry 0) = false ∧
    Instr.wellFormed (.writeTimerExpiry 65536) = false ∧
    Instr.wellFormed (.frameLengthOverLimit 1024) = false ∧
    Instr.wellFormed (.frameLengthOverLimit 1025) = true := by decide

/-- The table gives no row any bits, so no word spells a command. -/
theorem test_decodeTableWord : decodeTableWord 8 1 = none := rfl

/-! ### Witnesses: the machine and the laws -/

def asOff : State := { hall17 with hall := { hall17.hall with power := .retain } }

theorem witness_StepRunsFrontCommand : State.reset.pending = [] := rfl

/-- `hall17` with an event of a warm start still to be taken by the units named. -/
def settling17 (tariff totals : Bool) : State :=
  let e : BoundaryEvent := ⟨⟨412, 0⟩, ⟨412, 1⟩, .meal, .warmStart, ⟨412, 400⟩⟩
  { hall17 with
    tariff := { tariff17 with boundary := if tariff then [e] else [] }
    totals := { JournalTotals.initial with boundary := if totals then [e] else [] } }

theorem witness_StoppedPartTakesNothing :
    takenStopped .saleOpen = false ∧ takesEvent .saleOpen = false ∧ asOff.started = false ∧
    takenStopped .tariffBoundarySwap = false ∧ takesEvent .tariffBoundarySwap = true ∧
    (∀ s ∈ [settling17 true true, settling17 true false, settling17 false true],
      s.started = true ∧ s.running = false) ∧
    (settling17 false false).running = true := by decide +kernel

/-- A state of every law: A3's sale 2301 is priced, and its poll waits at the front of the queue. -/
def lawful : State := { sold with pending := [.sendPoll .a] }

theorem lawful_steps : ∃ t, step lawful = .next t := ⟨_, rfl⟩

theorem witness_OfficeWithinKept :
    let s := { hall17 with
      office := { OfficeLink.initial with
        tags := [1, 2, 3, 4, 5, 6, 7, 8].map fun n => TagEntry.mk n 15 .decoder
        reports := List.replicate 32 (.stationJoined stA1) }
      pending := [.frameSendStart] }
    s.office.Within ∧ ∃ t, step s = .next t :=
  ⟨⟨by decide +kernel, by decide +kernel, by decide +kernel, by decide +kernel⟩, _, rfl⟩

theorem witness_TagsAccountedKept :
    let s := { hall17 with
      office := { OfficeLink.initial with tags := [TagEntry.mk 1 15 .decoder] }
      decoder := { decoder17 with inbox := [⟨1, .stopClear⟩] }
      pending := [.stopClear] }
    s.office.Within ∧ s.running = true ∧ (s.office.tags.map (·.tag)).Perm s.heldTags ∧
      ∃ t, step s = .next t :=
  ⟨⟨by decide +kernel, by decide +kernel, by decide +kernel, by decide +kernel⟩, by decide +kernel,
    by decide +kernel, _, rfl⟩

/-- A work queue of a request each of A3 and B5, and eight of the host, whose tags are outstanding. -/
def busy17 : State :=
  { hall17 with
    office := { OfficeLink.initial with
      tags := [1, 2, 3, 4, 5, 6, 7, 8].map fun n => TagEntry.mk n 7 .saleEngine }
    sale := { hall17.sale with
      queue := [.station stA3 14 (.saleDone 1), .station stB5 60 (.saleOpen card150600 basket)] ++
        [1, 2, 3, 4, 5, 6, 7, 8].map fun n => Work.host ⟨n, .saleList⟩ }
    pending := [.saleList] }

theorem busy_stations : ∀ l ∈ [Lane.a, Lane.b], ∀ a : Fin 8,
    let r := busy17.station ⟨l, a⟩
    (r.outstanding = none → r.slot = none) ∧
      ∀ o ∈ r.outstanding.toList, o.orphaned = true → r.slot = none := by decide +kernel

theorem busy_queue : ∀ w ∈ busy17.sale.queue, ∀ st n q, w = Work.station st n q →
    (busy17.station st).slot = none ∧ ∃ o, (busy17.station st).outstanding = some o ∧ o.request = n ∧
      ((busy17.station st).state = .absent ∨ (busy17.station st).state = .pending → o.orphaned = true) := by
  intro w hw st n q h
  subst h
  have key : ∀ w ∈ busy17.sale.queue, match w with
      | .station st n _ => (busy17.station st).slot = none ∧
          (busy17.station st).outstanding = some ⟨n, false⟩ ∧ (busy17.station st).state = .good
      | .host _ => True := by
    simp only [busy17, List.map_cons, List.map_nil, List.cons_append, List.nil_append, List.forall_mem_cons]
    exact ⟨⟨rfl, rfl, rfl⟩, ⟨rfl, rfl, rfl⟩, trivial, trivial, trivial, trivial, trivial, trivial, trivial, trivial,
      fun _ h => nomatch h⟩
  obtain ⟨h1, h2, h3⟩ := key _ hw
  exact ⟨h1, _, h2, rfl, by rw [h3]; rintro (h | h) <;> cases h⟩

theorem witness_TagsAccountedKept_queue :
    busy17.office.Within ∧ (busy17.office.tags.map (·.tag)).Perm busy17.heldTags ∧ busy17.QueueLaw ∧
      ∃ t, step busy17 = .next t := by
  have lanes : ∀ l : Lane, l ∈ [Lane.a, Lane.b] := fun l => by cases l <;> simp
  exact ⟨⟨by decide +kernel, by decide +kernel, by decide +kernel, by decide +kernel⟩, by decide +kernel,
    ⟨by decide +kernel, by decide +kernel, by decide +kernel, fun st n q h => busy_queue _ h st n q rfl,
      fun st h => (busy_stations st.lane (lanes st.lane) st.addr).1 h,
      fun st o ho h => (busy_stations st.lane (lanes st.lane) st.addr).2 o (by simpa using ho) h⟩, _, rfl⟩

theorem lawful_journal : lawful.JournalLaw :=
  ⟨⟨by decide +kernel, by decide +kernel, by decide +kernel, by decide +kernel, by decide +kernel,
      by decide +kernel⟩,
    ⟨by decide +kernel, by decide +kernel, by decide +kernel, by decide +kernel⟩,
    by unfold State.Reserved; decide +kernel⟩

theorem witness_JournalLawKept : lawful.JournalLaw ∧ ∃ t, step lawful = .next t :=
  ⟨lawful_journal, lawful_steps⟩

theorem witness_OrdersRideKept :
    lawful.JournalLaw ∧ lawful.sale.OrdersRide ∧ ∃ t, step lawful = .next t := by
  refine ⟨lawful_journal, ⟨by decide +kernel, by decide +kernel, ?_, by decide +kernel,
    by decide +kernel, by decide +kernel, by decide +kernel⟩, lawful_steps⟩
  intro o ho n hn
  have h : ∀ o ∈ lawful.sale.credits, o.state = .riding 2301 ∧
      ∃ d ∈ lawful.sale.inFlight, d.sale = 2301 ∧ o.id ∈ d.riding := by decide +kernel
  obtain ⟨h1, h2⟩ := h o ho
  rw [h1] at hn
  cases hn
  exact h2

theorem lawful_cards : lawful.sale.CardsHeld := by
  have h : ∀ r ∈ lawful.sale.memory, r.inUse = some stA3 ∧
      ∃ c ∈ lawful.sale.contexts, c.data.card = r.card ∧ c.data.station = stA3 := by decide +kernel
  refine ⟨by decide +kernel, by decide +kernel, by decide +kernel, by decide +kernel,
    by decide +kernel, by decide +kernel, ?_, by decide +kernel, by decide +kernel⟩
  intro r hr st hst
  obtain ⟨h1, h2⟩ := h r hr
  rw [h1] at hst
  cases hst
  exact h2

theorem witness_CardsHeldKept :
    lawful.JournalLaw ∧ lawful.sale.CardsHeld ∧ ∃ t, step lawful = .next t :=
  ⟨lawful_journal, lawful_cards, lawful_steps⟩

theorem lawful_flags : lawful.FlagsAgree := by
  have hc : lawful.sale.contexts.map (fun c => (c.data.station, c.data.sale)) = [(stA3, 2301)] := by
    decide +kernel
  have hf : ∀ l ∈ [Lane.a, Lane.b], ∀ a : Fin 8, (lawful.station ⟨l, a⟩).contextFlag =
      if (⟨l, a⟩ : StationId) = stA3 then some 2301 else none := by decide +kernel
  intro ⟨l, a⟩ n
  have key : (∃ c ∈ lawful.sale.contexts, c.data.station = ⟨l, a⟩ ∧ c.data.sale = n) ↔
      ((⟨l, a⟩ : StationId), n) ∈ lawful.sale.contexts.map fun c => (c.data.station, c.data.sale) := by
    simp [Prod.ext_iff]
  rw [key, hc, hf l (by cases l <;> simp) a]
  clear hc hf key
  split <;> simp_all [eq_comm]

theorem witness_FlagsAgreeKept :
    lawful.JournalLaw ∧ lawful.sale.CardsHeld ∧ lawful.FlagsAgree ∧ ∃ t, step lawful = .next t :=
  ⟨lawful_journal, lawful_cards, lawful_flags, lawful_steps⟩

theorem witness_StopListKept : lawful.decoder.Ordered ∧ ∃ t, step lawful = .next t :=
  ⟨by unfold Decoder.Ordered; decide +kernel, lawful_steps⟩

theorem witness_TariffWithinKept : lawful.tariff.Within ∧ ∃ t, step lawful = .next t := by
  refine ⟨⟨⟨by decide +kernel, by decide +kernel, by decide +kernel, by decide +kernel⟩, ?_,
    by decide +kernel⟩, lawful_steps⟩
  intro g hg
  rw [show lawful.tariff.staging = .empty by decide +kernel] at hg
  cases hg

theorem witness_ClockKept :
    lawful.clock.Within ∧ lawful.PeriodCurrent ∧ ∃ t, step lawful = .next t :=
  ⟨⟨by decide +kernel, by decide +kernel, by decide +kernel, by decide +kernel, by decide +kernel,
      by decide +kernel, by decide +kernel, by decide +kernel, by decide +kernel⟩,
    fun _ => by decide +kernel, lawful_steps⟩

theorem lawful_stations : ∀ l ∈ [Lane.a, Lane.b], ∀ a : Fin 8,
    ((lawful.lane l).stations.get a).Within := by
  intro l _ a
  have h : ∀ l ∈ [Lane.a, Lane.b], ∀ a : Fin 8, let r := (lawful.lane l).stations.get a
      (r.score ≤ 255 ∧ r.cleanCalls ≤ 32 ∧ r.waits ≤ 1000 ∧ r.silent ≤ 8) ∧
      (r.state = .absent ∨ r.state = .pending →
        r.role = none ∧ r.score = 0 ∧ r.cleanCalls = 0 ∧ r.waits = 0 ∧ r.errors = .empty ∧
          r.leaveRequested = false) ∧
      (r.state = .absent → r.slot = none ∧ r.busy = none ∧ r.lastRequest = none ∧ r.silent = 0) ∧
      (r.state = .absent → ∀ o ∈ r.outstanding.toList, o.orphaned = true) ∧
      (r.state = .dropped ∨ r.state = .held →
        r.score = 255 ∧ r.waits = 0 ∧ r.leaveRequested = false) := by decide +kernel
  obtain ⟨⟨h1, h2, h3, h4⟩, h5, h6, h7, h8⟩ := h l (by cases l <;> simp) a
  exact ⟨h1, h2, h3, h4, h5, h6, fun ha o ho => h7 ha o (by simpa using ho), h8⟩

theorem lawful_lane (l : Lane) : (lawful.lane l).Within := by
  have hl : l ∈ [Lane.a, Lane.b] := by cases l <;> simp
  have h : ∀ l ∈ [Lane.a, Lane.b], (lawful.lane l).mode ≠ .off ∧
      (1 ≤ (lawful.lane l).settings.timeout ∧ (lawful.lane l).settings.timeout ≤ 15) ∧
      (1 ≤ (lawful.lane l).settings.waitLimit ∧ (lawful.lane l).settings.waitLimit ≤ 1000) ∧
      ∀ a : Fin 8, ((lawful.lane l).stations.get a).waits < (lawful.lane l).settings.waitLimit := by
    decide +kernel
  exact ⟨(h l hl).2.1, (h l hl).2.2.1, lawful_stations l hl, (h l hl).2.2.2,
    fun ho => absurd ho (h l hl).1⟩

theorem lanesWithin_of (s : State) (h : ∀ l, (s.lane l).Within) : s.LanesWithin := ⟨h .a, h .b⟩

theorem witness_LanesWithinKept : lawful.LanesWithin ∧ ∃ t, step lawful = .next t :=
  ⟨lanesWithin_of lawful lawful_lane, lawful_steps⟩

/-! ### Witnesses: frames and the office line -/

theorem witness_OfficeFrameRead :
    (63 : Byte).toNat < 64 ∧ (List.replicate 1024 (0 : Byte)).length ≤ 1024 ∧
      (165 : Byte) ∉ ([1, 2] : List Byte) := by decide +kernel

/-- A cut right after the start marker, and before the last byte. -/
theorem witness_OfficeFrameRead_cut :
    let frame := (officeFrame 15 9 [1]).drop 1
    (frame = [] ++ frame ∧ frame ≠ []) ∧
    (frame = frame.take 6 ++ frame.drop 6 ∧ (frame.drop 6).length = 1) := by decide +kernel

theorem witness_LaneAnswerRead :
    (AnswerKind.request (.saleOpen card213 (List.replicate 70 ⟨1001, 1⟩))).body.length ≤ 255 ∧
      (195 : Byte) ∉ ([1, 2] : List Byte) := by decide +kernel

/-- A part whose tag table holds `n` tags, from 1 up. -/
def tagged (n : Nat) : State :=
  { hall17 with office := { OfficeLink.initial with
      tags := (List.range n).map fun k => TagEntry.mk (BitVec.ofNat 8 (k + 1)) 15 .decoder } }

/-- Kinds read by their bytes alone, and kinds with a field that R198 leaves open. -/
theorem witness_FrameAdmitted :
    ((tagged 7).running = true ∧ (tagged 7).office.receiver = .hunting ∧
      (tagged 7).office.closing = none ∧ (9 : Byte) ∉ (tagged 7).office.tags.map (·.tag) ∧
      (tagged 7).office.tags.length < 8) ∧
    (∀ x ∈ [(HostRequest.journalRelease 4294967295, [255, 255, 255, 255], Owner.totals),
        (.status, [], .hall), (.enroll (some stB5) .cashier, [13, 0], .lane .b),
        (.setPeriods [⟨0, some .meal⟩], [1, 0, 0, 0], .clock), (.totalsRead (some stB5), [13], .totals),
        (.rangeDefault none, [0], .decoder), (.rangeDefault (some 7), [1, 7], .decoder)],
      x.2.1.length ≤ 1024 ∧ x.1.readFrom x.2.1 = true ∧ x.1.enumerated = true ∧
        x.1.owner = some x.2.2) ∧
    (HostRequest.journalRelease 4294967295).fixed = true ∧ HostRequest.status.fixed = true ∧
    (HostRequest.totalsRead (some stB5)).fixed = true ∧ (HostRequest.rangeDefault none).fixed = true ∧
    (HostRequest.rangeDefault (some 7)).fixed = false ∧
    (HostRequest.enroll (some stB5) .cashier).fixed = false ∧
    (HostRequest.setPeriods [⟨0, some .meal⟩]).fixed = false := by decide +kernel

/-- A STATUS frame that comes in three commands: the receiver is INSIDE between them. -/
theorem test_frameInParts :
    let frame := officeFrame 43 9 []
    let s1 := after (.officeFrameReceived ([7] ++ frame.take 2) none) hall17
    let s2 := after (.officeFrameReceived ((frame.drop 2).take 2) none) s1
    let s3 := after (.officeFrameReceived (frame.drop 4) none) s2
    s1.office.receiver = .inside [0] ∧ s2.office.receiver = .inside [0, 0, 43] ∧
    s3.office.receiver = .hunting ∧ s3.hall.inbox = [⟨9, .status⟩] := by decide +kernel

/-- 12 R189, 13 R198: a body whose every field R198 fixes is read by its bytes, whatever the operand says. -/
theorem test_bytesAlone :
    (∀ reading ∈ [none, some HostRequest.stopClear, some .status],
      (after (.officeFrameReceived (officeFrame 43 9 []) reading) hall17).hall.inbox = [⟨9, .status⟩]) ∧
    (∀ reading ∈ [none, some HostRequest.status, some (.rangeDefault (some 7))],
      (after (.officeFrameReceived (officeFrame 15 9 [0]) reading) hall17).decoder.inbox =
        [⟨9, .rangeDefault none⟩]) ∧
    (after (.officeFrameReceived (officeFrame 15 9 [2]) none) hall17).office.refusals =
      [⟨9, 15, .badRequest, none⟩] ∧
    (after (.officeFrameReceived (officeFrame 24 9 [1, 156, 5, 159]) none) hall17).clock.inbox =
      [⟨9, .setClock 412 1439⟩] ∧
    (after (.officeFrameReceived (officeFrame 43 9 [0]) (some .status)) hall17).office.refusals =
      [⟨9, 43, .badRequest, none⟩] ∧
    (after (.officeFrameReceived (officeFrame 27 9 []) (some (.laneSet (some .a) .running)))
      hall17).office.refusals = [⟨9, 27, .badRequest, none⟩] := by decide +kernel

/-- 13 R198: a TOTALS_READ whose station id byte is outside 1 to 16 is refused at once, with no tag entered. -/
theorem test_totalsReadNoStation :
    ∀ b ∈ [(0 : Byte), 17], let s := after (.officeFrameReceived (officeFrame 37 9 [b]) none) hall17;
      s.office.refusals = [⟨9, 37, .badRequest, none⟩] ∧ s.office.tags = [] ∧ s.totals.inbox = [] := by
  decide +kernel

/-- 13 R198, 08 R139: the figures of a TARIFF_GROUP are read from its body, the most significant byte first. -/
theorem test_groupFigures :
    let request (first : Nat) : HostRequest :=
      .tariffGroup 7 ⟨(Eight.fill 1).set 0 first, Eight.fill 200, 2500, 500⟩
    let body : List Byte := [7, 39, 16] ++ List.replicate 7 1 ++ List.replicate 8 200 ++ [9, 196, 1, 244]
    (request 10000).readFrom body = true ∧ (request 4135).readFrom body = false ∧
      (request 10000).readFrom [7, 0, 0] = false := by decide +kernel

/-- 08 R131: the first entry whose kind is neither MEAL nor CLOSED is named. -/
theorem test_badKind :
    let asked := [AskedPeriod.mk 0 (some .meal), ⟨300, none⟩, ⟨200, some .closed⟩]
    let body : List Byte := [3, 0, 0, 0, 1, 44, 9, 0, 200, 1]
    (after (.officeFrameReceived (officeFrame 25 9 body) (some (.setPeriods asked)))
      hall17).office.refusals = [⟨9, 25, .badRequest, some 1⟩] := by decide +kernel

/-- 13 R198: bodies whose every field has a stated encoding, read right and not read otherwise. -/
theorem test_readFrom :
    (HostRequest.doubtDismiss 150600 2301).readFrom [0, 2, 76, 72, 8, 253] = true ∧
    (HostRequest.doubtDismiss 150600 2302).readFrom [0, 2, 76, 72, 8, 253] = false ∧
    (HostRequest.setClock 412 1439).readFrom [1, 156, 5, 159] = true ∧
    (HostRequest.setClock 412 1439).readFrom [1, 156, 5, 159, 0] = false ∧
    (HostRequest.release (some stB5)).readFrom [13] = true ∧
    (HostRequest.release none).readFrom [17] = true ∧
    (HostRequest.release none).readFrom [16] = false ∧
    (HostRequest.creditOrder 7705 150600 500).readFrom [0, 0, 30, 25, 0, 2, 76, 72, 1, 244] = true ∧
    (HostRequest.creditOrder 7705 150600 501).readFrom [0, 0, 30, 25, 0, 2, 76, 72, 1, 244] = false ∧
    HostRequest.status.readFrom [] = true ∧ HostRequest.status.readFrom [0] = false ∧
    (HostRequest.laneSet (some .a) .running).readFrom [0] = false ∧
    (HostRequest.laneRead (some .a)).readFrom [] = false ∧
    (HostRequest.laneRead (some .a)).readFrom [0] = true := by
  decide +kernel

/-- 13.5: a record of one order takes 59 bytes, its figures where the table puts them. -/
theorem test_journalRecord :
    committed.totals.journal.map (fun r => (r.bytes.length, r.bytes.take 14)) =
      [(59, [0, 0, 0, 1, 0, 0, 3, 0, 2, 76, 72, 0, 8, 253])] ∧
    committed.totals.journal.map (fun r => r.bytes.drop 35) =
      [[0, 0, 1, 244, 3, 0, 0, 4, 71, 0, 213, 0, 0, 0, 0, 1, 156, 1, 144, 1, 0, 0, 30, 25]] := by
  decide +kernel

/-- 13 R198: the presence bytes of fields that a reply carries in some cases (09 R147, 03 R52) and their
absence where a report always carries the field (11 R182); an amount that 4 signed bytes cannot hold. -/
theorem test_fields :
    (HostReply.laneModes .off .running).fields.drop 2 = [.fixed [0], .fixed [0]] ∧
    (HostReply.laneOff .running 8 1).fields.drop 2 =
      [.fixed [1], .free (.number 8), .fixed [1], .free (.number 1)] ∧
    ClassResult.stopped.fields.tail = List.replicate 4 (.fixed [0]) ∧
    (ClassResult.purse 3 true 0).fields.tail =
      [.fixed [1], .free (.number 3), .fixed [1], .free (.flag true), .fixed [1], .free (.number 0),
        .fixed [0]] ∧
    (Report.journalHigh 1792 60001 61792 256 ⟨421, 880⟩).fields.take 3 =
      [.free (.number 1792), .fixed (nat32 60001), .fixed (nat32 61792)] ∧
    moneyField (-2147483648) = .fixed [128, 0, 0, 0] ∧ moneyField 2147483648 = .free (.amount 2147483648) := by
  decide +kernel

def closing17 : State :=
  { hall17 with office := { OfficeLink.initial with closing := some .softReset } }

theorem witness_FrameRefusedAtOnce :
    (closing17.running = true ∧ closing17.office.receiver = .hunting ∧ closing17.office.closing ≠ none) ∧
    ((tagged 7).office.closing = none ∧ (7 : Byte) ∈ (tagged 7).office.tags.map (·.tag)) ∧
    ((tagged 8).office.closing = none ∧ (9 : Byte) ∉ (tagged 8).office.tags.map (·.tag) ∧
      8 ≤ (tagged 8).office.tags.length) ∧
    ((tagged 7).office.closing = none ∧ (9 : Byte) ∉ (tagged 7).office.tags.map (·.tag) ∧
      (tagged 7).office.tags.length < 8) ∧
    (tagged 7).running = true ∧ (tagged 8).running = true ∧
    (tagged 7).office.receiver = .hunting ∧ (tagged 8).office.receiver = .hunting ∧
    (63 : Byte).toNat < 64 := by decide +kernel

/-- Test 4's cases: a kind that no request has, and a station id outside 1 to 16, for a lane and for
TOTALS_READ; and a SET_PERIODS that can be read, whose kinds offend. -/
theorem witness_FrameRefusedAtOnce_unread :
    ((∀ body ∈ [([] : List Byte), [0], [0, 0, 0, 0], [0, 0, 0, 0, 0, 0]],
        ∀ r ∈ spelledBy body, r.kind ≠ 63 ∧ r.kind ≠ 0) ∧ (none : Option HostRequest) ≠ some .status) ∧
    ((HostRequest.release none).fixed = true ∧ (HostRequest.release none).readFrom [17] = true ∧
      (HostRequest.release none).owner = none ∧
      ∀ st ∈ [stA1, stA3, stB5], (HostRequest.release (some st)).readFrom [17] = false) ∧
    (∀ b ∈ [(0 : Byte), 17, 255], (HostRequest.totalsRead none).fixed = true ∧
      (HostRequest.totalsRead none).readFrom [b] = true ∧ (HostRequest.totalsRead none).enumerated = false) ∧
    ((HostRequest.setPeriods [⟨0, some .meal⟩, ⟨300, none⟩]).readFrom [2, 0, 0, 0, 1, 44, 9] = true ∧
      (HostRequest.setPeriods []).kind = 25) := by decide +kernel

def insideFrame : State := { hall17 with office := { OfficeLink.initial with receiver := .inside [] } }

theorem witness_FrameDiscarded :
    (hall17.running = true ∧ hall17.office.receiver = .hunting) ∧
    (insideFrame.running = true ∧ insideFrame.office.receiver = .inside [] ∧
      1024 < (1025 : BitVec 16).toNat) ∧
    64 ≤ (64 : Byte).toNat ∧ (0 : BitVec 16) ≠ crc16 (officeInner 63 0 []) := by decide +kernel

def aRefusal : OfficeRefusal := ⟨3, 1, .tagInUse, none⟩
def aReply : TaggedReply := ⟨4, 15, .stopCleared 2⟩
def aReport : Report := .stationJoined stA1

def outgoing (refusals : List OfficeRefusal) (replies : List TaggedReply) (last : Bool) : State :=
  { hall17 with office := { OfficeLink.initial with
      refusals := refusals, replies := replies, reports := [aReport], lastWasRefusal := last } }

theorem witness_TransmitterPicks :
    ∀ s ∈ [outgoing [aRefusal] [] true, outgoing [aRefusal] [aReply] false,
        outgoing [aRefusal] [aReply] true, outgoing [] [aReply] false, outgoing [] [] false],
      s.running = true ∧ s.office.sending = none ∧
      ((∃ f ∈ s.office.refusals.head?, f = aRefusal ∧
          (s.office.replies = [] ∨ s.office.lastWasRefusal = false)) ∨
        (s.office.replies = [aReply] ∧ (s.office.refusals = [] ∨ s.office.lastWasRefusal = true)) ∨
        (s.office.refusals = [] ∧ s.office.replies = [] ∧ s.office.reports = [aReport])) := by
  decide +kernel

def sendingFrame (f : OutFrame) (dropped : Bool) (c : Option ClosingStart) : State :=
  { hall17 with office := { OfficeLink.initial with sending := some ⟨f, dropped⟩, closing := c } }

theorem witness_FrameSent :
    ∀ s ∈ [sendingFrame (.refusal aRefusal) false none, sendingFrame (.reply aReply) false none,
        sendingFrame (.reply aReply) false (some .softReset),
        sendingFrame (.reply ⟨1, 44, .softResetTaken⟩) false (some .softReset),
        sendingFrame (.reply ⟨1, 45, .clearAllTaken none⟩) false (some .clearAll),
        sendingFrame (.report aReport true) false none, sendingFrame (.report aReport true) true none],
      s.running = true ∧ s.office.sending.isSome := by decide +kernel

/-! ### Witnesses: cards and pricing -/

theorem witness_WriteResolved :
    let image := cardOf 150600 (some slot212)
    let d : SaleData :=
      { sale := 65535, station := stA3, card := 150600, cardKind := .staff, kind := .sale
        stamp := ⟨412, 1⟩, generation := 1, figures := ⟨0, 0, 0, 0, 0⟩, riding := [], expected := 213
        newBalance := 999999, reversed := none }
    63 ≤ 63 ∧ 1 ≤ d.sale ∧ d.sale ≤ 65535 ∧ selectSlot image = .current slot212 .one ∧
      d.expected = slot212.sequence + 1 ∧ -5000 ≤ d.newBalance ∧ d.newBalance ≤ 999999 ∧
      validImage none = none ∧ validImage (some { slot212 with check := slot212.check + 1 }) = none := by
  decide +kernel

/-- Both counters of a new slot at their limits, on a card that shows the last sequence. -/
theorem witness_WriteResolved_slot :
    let p := fillSlot 65535 (-5000) 63 65535 ⟨65535, 7⟩ 65535 999999
    p.sequence = 0 ∧ p.money = -5000 ∧ p.allowanceUsed = 65535 ∧ p.spendToday = 999999 ∧
    p.stampPeriod = 7 ∧ p.valid = true := by decide +kernel

/-- 05 R91: its third and fourth tests, at the edges of d, for a card that does not show the sale. -/
theorem test_doubtResult :
    ∀ e ∈ doubted.sale.doubts,
      [0, 1, 65535, 2, 32768, 32769, 65534].map (fun k : Seq =>
        doubtResult (some 17) e.data card150600 (213 + k)) =
        [.notHappened, .notHappened, .notHappened, .unresolvable, .unresolvable, .stale, .stale] := by
  decide +kernel

def priceIn (balance : Int) (orders : List CreditOrder) : PriceInput :=
  ⟨2, true, balance, 0, 0, orders⟩

theorem witness_PricedSaleBalances :
    (groupFigures hall17.consult.active 2).subsidy.get (periodIndex 1) ≤ 10000 ∧
    (∃ p, priceSale hall17.consult basket (priceIn 999999 []) = .priced p) ∧
    ∃ p, priceSale hall17.consult [] (priceIn (-500) [⟨7705, 150600, 500, .pending⟩]) = .priced p :=
  ⟨by decide +kernel, ⟨_, rfl⟩, ⟨_, rfl⟩⟩

/-- The other way: an order that fits to the cent and one that does not, the gross, the cap and the overdraft
each at its limit, and the lines that fail. -/
theorem witness_PricedSaleBalances_answers :
    let now := { hall17.consult with active := ⟨[meal, ⟨1002, 100, (Eight.fill true).set 1 false⟩, dear],
      tariff17.active.groups⟩ }
    let order : CreditOrder := ⟨7705, 150600, 500, .pending⟩
    priceSale now [] (priceIn 999500 [order]) = .answered (.balance 999500 200 0 (some 2500) 500) ∧
    priceSale now [] (priceIn 999499 [order]) =
      .priced ⟨.credit, ⟨0, 0, 0, 0, 500⟩, [order], 999999⟩ ∧
    priceSale now [] (priceIn (-1001) [order]) = .answered (.insufficient (-1)) ∧
    priceSale now [] (priceIn 8 []) = .answered (.balance 8 200 0 (some 2500) 500) ∧
    priceSale { now with kind := .closed } basket (priceIn 8 []) = .answered (.closedPeriod 1) ∧
    priceSale now [⟨1001, 1⟩, ⟨1002, 1⟩, ⟨1, 1⟩] (priceIn 8 []) = .answered (.itemNotNow 2 1002 1) ∧
    priceSale now [⟨1001, 1⟩, ⟨1, 1⟩, ⟨1002, 1⟩] (priceIn 8 []) = .answered (.itemUnknown 2 1) ∧
    priceSale now (List.replicate 2 ⟨9999, 9⟩) (priceIn 8 []) = .answered (.basketTooLarge 1799982) ∧
    priceSale now basket { priceIn 8 [] with d := 2296 } = .answered (.capReached 204) ∧
    priceSale now basket { priceIn (-295) [] with d := 2295 } =
      .priced ⟨.sale, ⟨540, 135, 200, 205, 0⟩, [], -500⟩ ∧
    priceSale now basket (priceIn (-296) []) = .answered (.insufficient 204) := by decide +kernel

/-! ### Witnesses: the Sale Engine -/

def openAsk : Work := .station stA3 14 (.saleOpen card150600 basket)

def doneAsk : Work := .station stB5 60 (.saleDone 65535)

theorem witness_EventsBeforeRequests :
    let lossy := { queued [openAsk] with
      sale := { (queued [openAsk]).sale with losses := [⟨stA3, .held⟩] } }
    lossy.sale.losses ≠ [] ∧
    (∀ q ∈ [[openAsk, doneAsk], [openAsk]], (queued q).sale.deliveries = [] ∧
      (queued q).sale.losses = [] ∧ ∀ c ∈ (queued q).sale.contexts, c.state ≠ .writeOrdered 0) ∧
    doneAsk.high = true ∧ (∀ x ∈ [openAsk], x.high = false) := by decide +kernel

/-- A SALE_OPEN of A3 in a hall as `f` makes it. -/
def openIn (f : State → State) (image : CardImage) (lines : List BasketLine) : State :=
  f (askA3 (.saleOpen image lines))

def inMode (m : HallMode) (s : State) : State := { s with hall := { s.hall with mode := m } }

def reverseAsk (role : Role) : State :=
  withStation stA3 { cashierAt 14 with role := some role } (askA3 (.reverse card150600))

/-- 04 R66's tests, the form before them, and the card tests, each with a state that reaches it. -/
theorem witness_EarlyRefusals_form :
    (askA3 (.saleOpen card150600 [⟨0, 1⟩])).running = true ∧
    (askA3 (.saleOpen card150600 [⟨0, 1⟩])).nextRequest =
      some (.station stA3 14 (.saleOpen card150600 [⟨0, 1⟩])) ∧
    (Presented.basket [⟨0, 1⟩]).offence = some 1 ∧
    (Presented.basket (List.replicate 13 ⟨1001, 1⟩)).offence = some 13 ∧
    (Presented.basket (List.replicate 12 ⟨9999, 9⟩)).offence = none := by decide +kernel

/-- R8 at the limits of R7's four relations, by d = (a − b) mod 65536. -/
theorem witness_EarlyRefusals_slots :
    let at' (q : Seq) := PurseSlot.sealed { slot212 with sequence := q }
    let chosen (a b : Seq) :=
      selectSlot ⟨card150600.identity, some (at' a), some (at' b)⟩
    validImage (some (at' 0)) = some (at' 0) ∧ validImage none = none ∧
    validImage (some { slot212 with check := slot212.check + 1 }) = none ∧
    chosen 1 0 = .current (at' 1) .one ∧ chosen 32767 0 = .current (at' 32767) .one ∧
    chosen 32768 0 = .damaged .opposed ∧ chosen 32769 0 = .current (at' 0) .zero ∧
    chosen 0 1 = .current (at' 1) .zero ∧ chosen 5 5 = .current (at' 5) .one ∧
    selectSlot ⟨card150600.identity, some slot212,
      some (PurseSlot.sealed { slot212 with balance := 801 })⟩ = .damaged .conflict := by decide +kernel

theorem witness_EarlyRefusals_stations :
    (let s := inMode .suspended (askA3 (.saleOpen card150600 basket));
      s.running = true ∧ s.nextRequest = some openAsk ∧ s.hall.mode ≠ .serving) ∧
    (let s := withStation stA3 { cashierAt 14 with state := .dropped }
        (askA3 (.saleOpen card150600 basket));
      s.nextRequest = some openAsk ∧ s.hall.mode = .serving ∧ (s.station stA3).state ≠ .good ∧
        (s.station stA3).state ≠ .doubtful) ∧
    ((reverseAsk .cashier).nextRequest = some (.station stA3 14 (.reverse card150600)) ∧
      (reverseAsk .cashier).hall.mode = .serving ∧ ((reverseAsk .cashier).station stA3).state = .good ∧
      ((reverseAsk .cashier).station stA3).role ≠ some .supervisor) ∧
    (let s := { sold with sale := { sold.sale with queue := [openAsk] } };
      s.nextRequest = some openAsk ∧ (s.sale.contextOf stA3).isSome) := by decide +kernel

theorem witness_EarlyRefusals_cards :
    let s := askA3 (.saleOpen card150600 basket)
    s.running = true ∧ s.nextRequest = some openAsk ∧ s.hall.mode = .serving ∧
    (s.station stA3).state = .good ∧ s.sale.contextOf stA3 = none ∧
    identityCheck card150600.identity 411 = none ∧
    identityCheck card150600.identity s.clock.day = some .staff ∧
    s.decoder.decode 150211 = .stopped ∧ s.decoder.decode 150600 = .purse 2 true 1 ∧
    { s.decoder with defaultClass := none }.decode 200000 = .unknown ∧
    selectSlot (cardOf 150600 none) = .damaged .noValidSlot ∧
    selectSlot card150600 = .current slot212 .one ∧
    (sold.sale.contextOfCard 150600).isSome ∧ sold.sale.contextOf stB5 = none := by decide +kernel

/-- B5 presents `image` in the state `s`. -/
def atB5 (s : State) (image : CardImage) : State :=
  { s with sale := { s.sale with queue := [.station stB5 60 (.saleOpen image basket)] } }

/-- What the later steps ask for first, met by `atB5 s image`. -/
def reaches6 (s : State) (image : CardImage) (slot : PurseSlot) (target : SlotIndex) : Prop :=
  (atB5 s image).running = true ∧
  (atB5 s image).nextRequest = some (.station stB5 60 (.saleOpen image basket)) ∧
  (Presented.basket basket).offence = none ∧ (atB5 s image).hall.mode = .serving ∧
  ((atB5 s image).station stB5).state = .good ∧ (atB5 s image).sale.contextOf stB5 = none ∧
  identityCheck image.identity (atB5 s image).clock.day = some .staff ∧
  (atB5 s image).decoder.decode 150600 = .purse 2 true 1 ∧ image.identity.card.toNat = 150600 ∧
  selectSlot image = .current slot target ∧ (atB5 s image).sale.contextOfCard 150600 = none

/-- A copy of the card as it was before its last commit: older than the part's record. -/
theorem witness_LaterStepsAnswer_stale :
    reaches6 committed card150600 slot212 .one ∧
    (findCard committed.sale.memory 150600).bind (fun r => staleReason r slot212) = some .older := by
  unfold reaches6
  decide +kernel

/-- The doubted card with a slot of sequence `q` and no writer mark of sale 2301. -/
def cardAt (q : Seq) : CardImage := cardOf 150600 (some (PurseSlot.sealed { slot212 with sequence := q }))

def slotAt (q : Seq) : PurseSlot := PurseSlot.sealed { slot212 with sequence := q }

/-- The doubt with the card's record at `q`, so that step 6 passes whatever the card shows. -/
def doubtAt (q : Seq) : State :=
  { doubted with sale := { doubted.sale with
      memory := doubted.sale.memory.map fun r => { r with seq := q } } }

theorem witness_LaterStepsAnswer_doubt :
    (∀ e ∈ doubted.sale.doubts, e.data.expected = 213 ∧
      doubtResult (some 17) e.data card213 213 = .happened ∧
      doubtResult (some 17) e.data (cardAt 212) 212 = .notHappened ∧
      doubtResult (some 17) e.data (cardAt 214) 214 = .notHappened ∧
      doubtResult (some 17) e.data (cardAt 215) 215 = .unresolvable ∧
      doubtResult (some 17) e.data (cardAt 211) 211 = .stale) ∧
    (doubted.sale.doubtOfCard 150600).isSome ∧
    (reaches6 (doubtAt 211) (cardAt 211) (slotAt 211) .one ∧
      reaches6 (doubtAt 212) (cardAt 212) (slotAt 212) .one ∧
      reaches6 (doubtAt 212) (cardAt 215) (slotAt 215) .one) := by
  unfold reaches6
  decide +kernel

/-- The slot sale 2301 writes. -/
def slot213 : PurseSlot := PurseSlot.sealed ⟨213, 1095, 17, 2301, 412, 200, 1, 205, 0⟩

theorem witness_LaterStepsAnswer_happened : reaches6 doubted card213 slot213 .zero := by
  unfold reaches6
  decide +kernel

theorem witness_LaterStepsAnswer_fresh :
    (∀ r ∈ doubted.sale.memory, staleReason r slot213 = none) ∧
    (∀ r ∈ (doubtAt 211).sale.memory, staleReason r (slotAt 211) = none) ∧
    (∀ r ∈ (doubtAt 212).sale.memory, staleReason r (slotAt 212) = none) ∧
    (∀ r ∈ (doubtAt 212).sale.memory, staleReason r (slotAt 215) = none) := by decide +kernel

/-- A hall whose journal numbers are used up. -/
def usedUp : State :=
  { hall17 with totals := { JournalTotals.initial with next := 4294967295, exhausted := true } }

/-- `s` with the journal so near its last number that `k` records are free. -/
def nearlyFull (k : Nat) (s : State) : State :=
  { s with totals := { s.totals with next := 4294967296 - k } }

theorem witness_LaterStepsAnswer_last :
      (reaches6 usedUp card150600 slot212 .one ∧ usedUp.sale.doubtOfCard 150600 = none ∧
      findCard usedUp.sale.memory 150600 = none ∧
      usedUp.totals.free ≤ usedUp.sale.contexts.length + usedUp.sale.doubts.length) ∧
    (let s := nearlyFull 1 hall17;
      s.sale.contexts.length + s.sale.doubts.length < s.totals.free ∧
      reaches6 s card150600 slot212 .one ∧ s.sale.doubtOfCard 150600 = none ∧
      priceSale s.consult [⟨9999, 1⟩] (s.priceInput 150600 2 true slot212) =
        .answered (.itemUnknown 1 9999) ∧
      reversalTest s.hall.hallId s.clock.stamp slot212 none = .fails 2) := by
  unfold reaches6
  decide +kernel

/-- The record of the reversed sale, changed by `f`. -/
def reversingWith (f : LastSale → LastSale) : State :=
  { reversing with sale := { reversing.sale with
      memory := reversing.sale.memory.map fun r => { r with lastSale := r.lastSale.map f } } }

/-- The preconditions 2 to 5 of a REVERSE, each failing alone, and all met. -/
theorem witness_LaterStepsAnswer_reversal :
    let refused (s : State) := ((after .reverse s).station stB5).slot.map (·.reply)
    let returning (c : Int) := reversingWith fun l => { l with c := c }
    refused (reversingWith fun l => { l with reversed := true }) = some (.notReversible 2) ∧
    refused (reversingWith fun l => { l with kind := .credit }) = some (.notReversible 2) ∧
    refused (reversingWith fun l => { l with seqAfter := 214 }) = some (.notReversible 3) ∧
    refused (reversingWith fun l => { l with sale := 2300 }) = some (.notReversible 3) ∧
    refused (reversingWith fun l => { l with stamp := ⟨412, 2⟩ }) = some (.notReversible 4) ∧
    refused (returning 998905) = some (.notReversible 5) ∧
    (after .reverse (returning 998904)).sale.contexts.map (·.data.newBalance) = [999999] := by
  decide +kernel

theorem witness_SaleOpenOrdersWrite :
    reaches6 (nearlyFull 1 hall17) card150600 slot212 .one ∧
    (let s := atB5 (nearlyFull 1 hall17) card150600;
      s.sale.doubtOfCard 150600 = none ∧ findCard s.sale.memory 150600 = none ∧
      s.sale.contexts.length + s.sale.doubts.length < s.totals.free ∧
      (s.station stB5).outstanding = some ⟨60, false⟩ ∧
      priceSale s.consult basket (s.priceInput 150600 2 true slot212) =
        .priced ⟨.sale, ⟨540, 135, 200, 205, 500⟩, [⟨7705, 150600, 500, .pending⟩], 1095⟩) := by
  unfold reaches6
  decide +kernel

/-- The counter at its last number, held, and the number after it held too. -/
theorem witness_SaleOpenOrdersWrite_number :
    let doubt (n : Nat) : List DoubtEntry := doubted.sale.doubts.map fun e =>
      { e with data := { e.data with sale := n } }
    let e := { doubted.sale with counter := 65535, doubts := doubt 65535 ++ doubt 1 }
    e.heldNumbers = [65535, 1] ∧ e.assignedNumber = 2 ∧
    { e with doubts := doubt 1 }.assignedNumber = 65535 := by decide +kernel

theorem witness_ReverseOrdersWrite :
    let s := reversing
    (s.running = true ∧ s.nextRequest = some (.station stB5 60 (.reverse card213)) ∧
      s.hall.mode = .serving ∧ (s.station stB5).state = .good ∧
      (s.station stB5).role = some .supervisor ∧ s.sale.contextOf stB5 = none ∧
      identityCheck card213.identity s.clock.day = some .staff ∧
      s.decoder.decode card213.identity.card.toNat = .purse 2 true 1 ∧
      selectSlot card213 = .current slot213 .zero ∧ s.sale.contextOfCard 150600 = none ∧
      s.sale.doubtOfCard 150600 = none ∧
      s.sale.contexts.length + s.sale.doubts.length < s.totals.free ∧
      (s.station stB5).outstanding = some ⟨60, false⟩) ∧
    ∀ r ∈ (findCard s.sale.memory 150600).toList, staleReason r slot213 = none ∧
      ∀ l ∈ r.lastSale.toList, l.kind = .sale ∧ l.reversed = false ∧ slot213.sequence = l.seqAfter ∧
        carriesMark slot213 s.hall.hallId l.sale = true ∧ l.stamp = s.clock.stamp ∧
        slot213.money + l.c ≤ 999999 := by decide +kernel

theorem witness_ReverseOrdersWrite_record :
    ((findCard reversing.sale.memory 150600).bind (·.lastSale)).isSome := by decide +kernel

/-- Hall 17 with an item of every period but period 1 and a dear one beside the meal. -/
def cashHall : State :=
  { hall17 with tariff := { tariff17 with
      active := ⟨[meal, ⟨1002, 100, (Eight.fill true).set 1 false⟩, dear], tariff17.active.groups⟩ } }

def cashCard : CardImage := cardOf 200000 none

def asks (q : StationRequest) (r : StationRecord) (s : State) : State :=
  withStation stA3 r { s with sale := { s.sale with queue := [.station stA3 14 q] } }

/-- What CashSaleJournalled asks of every form, met by `asks q r s`. -/
def reachesCash (q : StationRequest) (r : StationRecord) (s : State) : Prop :=
  let t := asks q r s
  t.running = true ∧ t.nextRequest = some (.station stA3 14 q) ∧ t.hall.mode = .serving ∧
    ((t.station stA3).state = .good ∨ (t.station stA3).state = .doubtful) ∧
    t.sale.contextOf stA3 = none ∧ identityCheck cashCard.identity t.clock.day = some .staff ∧
    t.decoder.decode cashCard.identity.card.toNat = .cashOnly 7 none

/-- The baskets of its clauses: an empty one, one priced at each edge of 999,999, and those whose second
line names an item that is unknown, or not sold in period 1. -/
def cashBaskets : List (List BasketLine) :=
  [[], basket, [⟨9999, 9⟩], [⟨9999, 9⟩, ⟨9999, 2⟩], [⟨1001, 1⟩, ⟨4, 1⟩], [⟨1001, 1⟩, ⟨1002, 1⟩]]

theorem witness_CashSaleJournalled :
    (∀ lines ∈ cashBaskets, (Presented.basket lines).offence = none ∧
      ∀ s ∈ [cashHall, { cashHall with clock := { clock17 with kind := .closed } }, usedUp,
          nearlyFull 1 cashHall],
        reachesCash (.saleOpen cashCard lines) (cashierAt 14) s) ∧
    (∀ s ∈ [cashHall, usedUp], reachesCash (.reverse cashCard) (supervisorAt 14) s ∧
      ((asks (.reverse cashCard) (supervisorAt 14) s).station stA3).role = some .supervisor) ∧
    usedUp.totals.free ≤ usedUp.sale.contexts.length + usedUp.sale.doubts.length ∧
    (∀ s ∈ [cashHall, nearlyFull 1 cashHall],
      s.sale.contexts.length + s.sale.doubts.length < s.totals.free) := by
  unfold reachesCash
  decide +kernel

/-- How those baskets' items stand in period 1, and the gross sums at each edge. -/
theorem witness_CashSaleJournalled_items :
    let found (n : Nat) := cashHall.tariff.active.items.find? fun x => x.code = n
    (cashHall.clock.kind = .meal ∧ cashHall.clock.stamp.period = 1) ∧ found 4 = none ∧
    (∀ n ∈ [1001, 9999], ∃ x ∈ (found n).toList, x.mask.get (periodIndex 1) = true) ∧
    (∃ x ∈ (found 1002).toList, x.mask.get (periodIndex 1) = false) ∧
    99999 * 9 ≤ 999999 ∧ 999999 < 99999 * 9 + 99999 * 2 := by decide +kernel

/-- A3 completes sale `n` in the state `s`. -/
def completes (q : StationRequest) (s : State) : State :=
  { s with sale := { s.sale with queue := [.station stA3 15 q] } }

/-- The five places R76 may find a completion's sale in, and the PENDING station. -/
theorem witness_completions :
    ∀ q ∈ [StationRequest.saleDone 2301, .saleTorn 2301, .saleCancel 2301],
      (∀ s ∈ [hall17, sold, polled, doubted, committed],
        (completes q s).running = true ∧
        (completes q s).nextRequest = some (.station stA3 15 q) ∧
        ((completes q s).station stA3).state ≠ .pending) ∧
      (let s := withStation stA3 { cashierAt 14 with state := .pending } (completes q hall17);
        s.running = true ∧ s.nextRequest = some (.station stA3 15 q) ∧
        (s.station stA3).state = .pending) := by decide +kernel

theorem witness_completions_found :
    (∀ s ∈ [sold, polled], ∀ c ∈ s.sale.contexts, s.sale.found stA3 2301 = .context c) ∧
    sold.sale.contexts.map (·.state) = [.pricedUnsent] ∧
    polled.sale.contexts.map (·.state) = [.writeOrdered 20] ∧
    (∀ e ∈ doubted.sale.doubts, doubted.sale.found stA3 2301 = .doubt e) ∧
    committed.sale.found stA3 2301 = .closed .committed ∧
    hall17.sale.found stA3 2301 = .nothing := by decide +kernel

/-- The card's record at a commit, and at late ones whose E is newer than its L and is not. -/
theorem witness_SaleDoneCommits_record :
    (findCard polled.sale.memory 150600).isSome ∧
    (findCard doubted.sale.memory 150600).map (fun r => seqNewer 213 r.seq) = some true ∧
    (findCard (doubtAt 213).sale.memory 150600).map (fun r => seqNewer 213 r.seq) = some false := by
  decide +kernel

theorem witness_SaleTornMoves : (completes (.saleTorn 2301) polled).sale.Numbered :=
  ⟨by decide +kernel, by decide +kernel, by decide +kernel, by decide +kernel⟩

def lost (why : LossCause) (s : State) : State :=
  { s with sale := { s.sale with losses := [⟨stA3, why⟩] } }

def runOut : State :=
  { polled with sale := { polled.sale with
      contexts := polled.sale.contexts.map fun c => { c with state := .writeOrdered 0 } } }

theorem witness_EngineEvents :
    ({ sold with sale := { sold.sale with deliveries := [⟨stA3, 2301⟩] } }.running = true) ∧
    (runOut.running = true ∧ ∀ c ∈ runOut.sale.contexts, c.state = .writeOrdered 0) ∧
    runOut.sale.contexts.length = 1 ∧
    (lost .held hall17).sale.contextOf stA3 = none ∧
    (∀ c ∈ sold.sale.contexts, (lost .dropped sold).sale.contextOf stA3 = some c) ∧
    (∀ c ∈ polled.sale.contexts, (lost .off polled).sale.contextOf stA3 = some c) ∧
    (lost .held hall17).running = true ∧ (lost .off polled).running = true ∧
    (∀ n ∈ [4, 5, 60, 61], (queued [.host ⟨1, .writeTimerSet n⟩]).running = true ∧
      (queued [.host ⟨1, .writeTimerSet n⟩]).nextRequest = some (.host ⟨1, .writeTimerSet n⟩)) := by
  decide +kernel

theorem witness_EngineEvents_numbered : runOut.sale.Numbered ∧ (lost .off polled).sale.Numbered :=
  ⟨⟨by decide +kernel, by decide +kernel, by decide +kernel, by decide +kernel⟩,
    ⟨by decide +kernel, by decide +kernel, by decide +kernel, by decide +kernel⟩⟩

/-- The engine's next request is the host's `r`, in the state `s`. -/
def hostAsks (r : HostRequest) (s : State) : State :=
  { s with sale := { s.sale with queue := [.host ⟨1, r⟩] } }

def manyOrders (n : Nat) : State :=
  { hall17 with sale := { hall17.sale with
      credits := (List.range n).map fun k => CreditOrder.mk k 150600 1 .pending } }

theorem witness_CreditOrdersPlaced :
    (∀ amount ∈ [0, 1, 100000, 100001],
      (hostAsks (.creditOrder 7705 150600 amount) hall17).running = true ∧
      (hostAsks (.creditOrder 7705 150600 amount) hall17).nextRequest =
        some (.host ⟨1, .creditOrder 7705 150600 amount⟩)) ∧
    hall17.sale.credits.map (·.id) = [7705] ∧ sold.sale.credits.map (·.state) = [.riding 2301] ∧
    (∀ o ∈ (manyOrders 1024).sale.credits, o.id ≠ 7705) ∧
    1024 ≤ (manyOrders 1024).sale.credits.length ∧ (manyOrders 1023).sale.credits.length < 1024 ∧
    (∀ id ∈ [7705, 7706], ∀ s ∈ [hall17, sold], (hostAsks (.cancelCredit id) s).running = true ∧
      (hostAsks (.cancelCredit id) s).nextRequest = some (.host ⟨1, .cancelCredit id⟩)) := by
  decide +kernel

theorem witness_DoubtDismissed :
    (∀ n ∈ [0, 2301, 2302], (hostAsks (.doubtDismiss 150600 n) doubted).running = true ∧
      (hostAsks (.doubtDismiss 150600 n) doubted).nextRequest =
        some (.host ⟨1, .doubtDismiss 150600 n⟩)) ∧
    (∀ e ∈ doubted.sale.doubts, e.data.card = 150600 ∧ e.data.sale = 2301) ∧
    doubted.sale.doubts.length = 1 := by decide +kernel

theorem witness_DoubtDismissed_numbered :
    (hostAsks (.doubtDismiss 150600 2301) doubted).sale.Numbered :=
  ⟨by decide +kernel, by decide +kernel, by decide +kernel, by decide +kernel⟩

/-! ### Witnesses: the other blocks' requests -/

def asksDecoder (r : HostRequest) : State := { hall17 with decoder := { decoder17 with inbox := [⟨1, r⟩] } }

def asksTariff (g : Staging) (r : HostRequest) : State :=
  { hall17 with tariff := { tariff17 with staging := g, inbox := [⟨1, r⟩] } }

def asksClock (r : HostRequest) : State := { hall17 with clock := { clock17 with inbox := [⟨1, r⟩] } }

def asksTotals (r : HostRequest) : State :=
  { committed with totals := { committed.totals with inbox := [⟨1, r⟩] } }

def asksHall (m : HallMode) (r : HostRequest) : State :=
  { hall17 with hall := { hall17.hall with mode := m, inbox := [⟨1, r⟩] } }

def asksLane (m : LaneMode) (r : HostRequest) : State :=
  { hall17 with laneA := { hall17.laneA with mode := m, inbox := [⟨1, r⟩] } }

theorem witness_ReadRequestsOnlyAnswer_engine :
    ∀ r ∈ [HostRequest.queryCredits 1023, .queryCredits 1024, .queryCard 4294967295, .doubtList 63,
        .doubtList 64, .saleList],
      (hostAsks r hall17).running = true ∧ (hostAsks r hall17).nextRequest = some (.host ⟨1, r⟩) := by
  decide +kernel

theorem witness_ReadRequestsOnlyAnswer :
    (∀ r ∈ [HostRequest.stopList 511, .stopList 512, .rangeList], (asksDecoder r).running = true ∧
      (asksDecoder r).decoder.inbox = [⟨1, r⟩]) ∧
    (∀ r ∈ [HostRequest.tariffList .active 1023, .tariffList .staged 1024],
      (asksTariff .empty r).running = true ∧ (asksTariff .empty r).tariff.inbox = [⟨1, r⟩]) ∧
    ((asksClock .clockRead).running = true ∧ (asksClock .clockRead).clock.inbox = [⟨1, .clockRead⟩]) ∧
    ((asksLane .off (.laneRead (some .a))).running = true ∧
      ((asksLane .off (.laneRead (some .a))).lane .a).inbox = [⟨1, .laneRead (some .a)⟩] ∧
      ((asksLane .off (.laneRead (some .a))).lane .a).exchange = none) ∧
    (∀ r ∈ [HostRequest.journalFetch, .totalsRead none, .totalsRead (some stB5)],
      (asksTotals r).running = true ∧ (asksTotals r).totals.inbox = [⟨1, r⟩]) ∧
    (asksHall .setup .status).running = true ∧
      (asksHall .setup .status).hall.inbox = [⟨1, .status⟩] := by decide +kernel

theorem witness_StopAddTakes :
    (∀ cards ∈ [[], [7], List.range 16, List.range 17],
      ∀ r ∈ [HostRequest.stopAdd cards, .stopRemove cards], (asksDecoder r).running = true ∧
        (asksDecoder r).decoder.inbox = [⟨1, r⟩]) ∧
    (List.range 16).length ≤ 16 ∧ 16 < (List.range 17).length := by decide +kernel

theorem ordered_range (d : Decoder) (n : Nat) (hn : n ≤ 512) (h : d.stop = List.range n) : d.Ordered := by
  rw [Decoder.Ordered, h]
  exact ⟨List.pairwise_lt_range, by rw [List.length_range]; exact hn⟩

/-- The premise `Ordered`, also at a full list, where one more number meets FULL. -/
theorem witness_StopAddTakes_ordered :
    (∀ d : Decoder, d.stop = List.range 512 → d.Ordered) ∧
      (asksDecoder (.stopRemove [104000])).decoder.Ordered :=
  ⟨fun d h => ordered_range d 512 (Nat.le_refl _) h, by unfold Decoder.Ordered; decide +kernel⟩

theorem witness_StopClearEmpties :
    (asksDecoder .stopClear).running = true ∧ (asksDecoder .stopClear).decoder.inbox = [⟨1, .stopClear⟩] := by
  decide +kernel

theorem witness_RangeRequests :
    ∀ r ∈ [HostRequest.rangeSet 16 0 1 0 true true, .rangeSet 0 2 1 0 true true,
        .rangeSet 0 0 1 8 true true, .rangeSet 15 5 5 7 true false, .rangeClear 15, .rangeClear 16,
        .rangeDefault none, .rangeDefault (some 7), .rangeDefault (some 8)],
      (asksDecoder r).running = true ∧ (asksDecoder r).decoder.inbox = [⟨1, r⟩] := by decide +kernel

theorem witness_ClassQueryDecodes :
    (∀ card ∈ [104000, 150499, 150500, 200000], (asksDecoder (.classQuery card)).running = true ∧
      (asksDecoder (.classQuery card)).decoder.inbox = [⟨1, .classQuery card⟩]) ∧
    104000 ∈ decoder17.stop ∧ 150499 ∉ decoder17.stop ∧ 200000 ∉ decoder17.stop ∧
    decoder17.ranges.getN 0 = some ⟨150000, 150499, 3, true, true⟩ ∧
    decoder17.ranges.getN 1 = some ⟨100000, 199999, 2, true, true⟩ ∧
    ∀ k : Fin 16, ∀ r ∈ (decoder17.ranges.getN k).toList, ¬ (r.first ≤ 200000 ∧ 200000 ≤ r.last) := by
  decide +kernel

def staged17 : TariffSet := ⟨[meal], Eight.fill group2⟩

def badItem : PriceItem := ⟨10000, 0, Eight.fill true⟩

theorem witness_TariffStaging :
    (∀ r ∈ [HostRequest.tariffBegin, .tariffItems [], .tariffItems [badItem],
        .tariffItems (List.replicate 41 dear), .tariffItems (List.replicate 40 dear),
        .tariffGroup 8 group2, .tariffGroup 7 group2, .tariffEnd 0, .tariffEnd 1],
      ∀ g ∈ [Staging.empty, .filling staged17, .ready staged17],
        (asksTariff g r).running = true ∧ (asksTariff g r).tariff.inbox = [⟨1, r⟩] ∧
        (asksTariff g r).tariff.staging = g) ∧
    itemOk badItem = false ∧ itemOk dear = true ∧
    (staged17.items.map (·.code)).Pairwise (· < ·) ∧ staged17.items.length = 1 := by decide +kernel

def boundary17 : BoundaryEvent := ⟨⟨412, 0⟩, ⟨412, 1⟩, .meal, .minute, ⟨412, 300⟩⟩

theorem witness_TariffSwap :
    ∀ g ∈ [Staging.empty, .ready staged17],
      (asksTariff g .tariffSwapNow).running = true ∧ (asksTariff g .tariffSwapNow).tariff.generation ≤ 65535 ∧
      (asksTariff g .tariffSwapNow).tariff.inbox = [⟨1, .tariffSwapNow⟩] ∧
      (let s := { settling17 true true with tariff := { (settling17 true true).tariff with
          generation := 65535, staging := g } };
        s.started = true ∧ s.running = false ∧ s.tariff.boundary.length = 1) ∧
      { hall17 with tariff := { tariff17 with
        generation := 65535, staging := g, boundary := [boundary17] } }.started = true := by decide +kernel

def clockAt (day minute second : Nat) : State :=
  { hall17 with clock := { clock17 with day := day, minute := minute, second := second } }

theorem witness_ClockCounts :
    (∀ s ∈ [clockAt 412 400 0, clockAt 412 400 58, clockAt 412 299 59, clockAt 412 1439 59,
        clockAt 65535 1439 59],
      (s.clock.isSet = true ∧
        (s.clock.second < 59 ∨ s.clock.second = 59 ∧ s.clock.minute ≤ 1439 ∧ s.clock.day ≤ 65535)) ∧
      s.started = true ∧
      ∀ h ∈ [{ s.hall with power := .retain }, { s.hall with resetHeld := true },
          { s.hall with startDue := some (.warm .supply) }], { s with hall := h }.started = false) ∧
    State.reset.clock.isSet = false ∧ State.reset.started = true := by
  decide +kernel

def asked17 : List AskedPeriod := schedule17.map PeriodEntry.asked

theorem witness_ClockRequests :
    (∀ r ∈ [HostRequest.setClock 412 1440, .setClock 411 1439, .setClock 412 1439, .setClock 65535 0,
        .setPeriods [], .setPeriods [⟨0, some .meal⟩, ⟨0, some .closed⟩],
        .setPeriods [⟨1440, some .meal⟩], .setPeriods [⟨0, none⟩], .setPeriods asked17,
        .setPeriods (List.replicate 9 ⟨0, some .meal⟩)],
      (asksClock r).running = true ∧ (asksClock r).clock.inbox = [⟨1, r⟩]) ∧
    (asksClock .clockRead).clock.day = 412 ∧
    ¬ (([⟨0, .meal⟩, ⟨0, .closed⟩] : List PeriodEntry).map (·.start)).Pairwise (· < ·) ∧
    (schedule17.map (·.start)).Pairwise (· < ·) ∧ schedule17.length ≤ 8 ∧
    (∀ e ∈ schedule17, e.start ≤ 1439) ∧
    (∀ x ∈ ([⟨330, .meal⟩, ⟨480, .closed⟩] : List PeriodEntry), 329 < x.start) ∧
    schedule17[2]? = some ⟨660, .meal⟩ ∧ ∀ x ∈ schedule17.drop 3, 869 < x.start := by decide +kernel

theorem witness_ClockRequests_offends :
    PeriodOffends [⟨1439, some .meal⟩, ⟨1439, some .closed⟩] 1 ∧ PeriodOffends [⟨1440, some .meal⟩] 0 ∧
    PeriodOffends [⟨0, none⟩] 0 ∧ PeriodOffends (List.replicate 9 ⟨0, some .meal⟩) 8 :=
  ⟨⟨_, rfl, .inr (.inr (.inr ⟨_, rfl, by decide, by decide⟩))⟩, ⟨_, rfl, .inr (.inl (by decide))⟩,
    ⟨_, rfl, .inr (.inr (.inl rfl))⟩, ⟨_, rfl, .inl (by decide)⟩⟩

/-- 08 R131: the second of two equal starts is the first offending entry. -/
theorem test_setPeriods :
    (after .setPeriods (asksClock (.setPeriods [⟨300, some .meal⟩, ⟨300, some .closed⟩,
      ⟨2000, some .meal⟩]))).office.replies.map (·.reply) = [.badPeriods (some 1)] := by decide +kernel

theorem witness_JournalReleased :
    (∀ n ∈ [0, 1], (asksTotals (.journalRelease n)).running = true ∧
      (asksTotals (.journalRelease n)).totals.inbox = [⟨1, .journalRelease n⟩]) ∧
    (∀ r ∈ committed.totals.journal, r.number = 1) ∧ committed.totals.journal.length = 1 := by
  decide +kernel

theorem witness_JournalReleased_consecutive :
    (asksTotals (.journalRelease 1)).totals.Consecutive :=
  ⟨by decide +kernel, by decide +kernel, by decide +kernel, by decide +kernel, by decide +kernel,
    by decide +kernel⟩

theorem witness_TotalsClosed :
    ((asksTotals .dayClose).running = true ∧ (asksTotals .dayClose).totals.inbox = [⟨1, .dayClose⟩]) ∧
    { committed with totals := { committed.totals with boundary := [boundary17] } }.started = true ∧
    (settling17 false true).started = true ∧ (settling17 false true).totals.boundary.length = 1 := by
  decide +kernel

theorem witness_HallModes :
    ∀ m ∈ [HallMode.setup, .serving, .suspended],
      ∀ r ∈ [HostRequest.setHall 63, .setHall 64, .openHall, .suspend, .resume, .softReset,
          .clearAll none, .clearAll (some 17)],
        (asksHall m r).running = true ∧ (asksHall m r).hall.inbox = [⟨1, r⟩] ∧
        (asksHall m r).hall.mode = m ∧ (asksHall m r).hall.hallId = some 17 ∧
        (asksHall m r).clock.isSet = true ∧ 1 ≤ (asksHall m r).tariff.generation := by decide +kernel

/-- Another request outstanding beside the CLEAR_ALL of tag 1, and none. -/
theorem witness_HallClosing :
    (∃ e ∈ (tagged 2).office.tags, e.tag ≠ 1) ∧ ∀ e ∈ (tagged 1).office.tags, e.tag = 1 := by
  decide +kernel

/-! ### Witnesses: the lanes -/

/-- Lane A waits with the poll it was ready to send. -/
def paused (s : State) : State := { s with laneA := { s.laneA with waiting := some (2, .poll) } }

theorem witness_PollSent :
    (∀ s ∈ [sold, paused sold], s.running = true ∧ (s.lane .a).mode = .running ∧
      (s.lane .a).exchange = none ∧ (s.lane .a).nextPoll = some (2, .poll) ∧
      (s.lane .a).position = some 0 ∧ (s.lane .a).lineStuck = false) ∧
    (sold.lane .a).waiting = none ∧ ((paused sold).lane .a).waiting = some (2, .poll) ∧
    (let c := { sold.laneA with lineStuck := true };
      c.mode = .running ∧ c.exchange = none ∧ c.nextPoll = some (2, .poll)) ∧
    { sold.laneA with position := none }.nextPoll = some (0, .rollCall) ∧
    { sold.laneA with position := none, rollPointer := 6 }.nextPoll = some (7, .rollCall) := by
  decide +kernel

/-- A lane on which every station is as `r`, with its walk over. -/
def allStations (r : StationRecord) : State :=
  { sold with laneA := { sold.laneA with position := none, stations := Eight.fill r } }

/-- With no station to call a round begins at address 1; with all HELD there is nothing to send. -/
theorem witness_PollSent_empty :
    ∀ r ∈ [cashierAt 14, { StationRecord.initial with state := .held }],
      let s := allStations r
      s.running = true ∧ (s.lane .a).mode = .running ∧ (s.lane .a).exchange = none ∧
      (s.lane .a).position = none ∧ (s.lane .a).waiting = none ∧
      ∀ a, ((s.lane .a).stations.get a).state.called = false := by decide +kernel

theorem test_newRound :
    (after (.sendPoll .a) (allStations (cashierAt 14))).laneA.exchange.map (fun x => x.poll.addr) =
      some 0 ∧
    (after (.sendPoll .a) (allStations { StationRecord.initial with state := .held })).laneA.exchange =
      none := by decide +kernel

/-- 10 R174: with the indication set already the lane waits all the same, and its idle resume sends the poll
it was ready to send, whatever station has come into the walk before it meanwhile. -/
theorem test_lineStuck :
    let held : State := { sold with laneA := { sold.laneA with lineStuck := true } }
    let t := after (.lineStuck .a) held
    t.laneA.waiting = some (2, .poll) ∧ t.office.reports = [] ∧
    (after (.sendPoll .a) t).laneA.exchange = none ∧
    ((after (.lineIdleResume .a) (withStation stA1 (cashierAt 3) t)).laneA.exchange.map fun x =>
      (x.poll.addr, x.poll.kind)) = some (2, .poll) := by decide +kernel

/-- Lane A awaits the answer of address `a`, whose station stands as `r`. -/
def awaiting (a : Fin 8) (k : PollKind) (r : StationRecord) : State :=
  let s := withStation ⟨.a, a⟩ r hall17
  { s with laneA := { s.laneA with exchange := some ⟨r.poll a k, []⟩ } }

def answerOf (a : Fin 8) (k : AnswerKind) (seen : Option Byte) : Answer :=
  ⟨BitVec.ofNat 8 (a.val + 1), k, 15, seen⟩

def fresh (state : StationState) : StationRecord := { StationRecord.initial with state := state }

theorem witness_answers :
    ∀ a ∈ [answerOf 0 .join none, answerOf 7 .leave none, answerOf 7 .nothing none, answerOf 7 .wait none,
        answerOf 2 (.request (.saleCancel 2301)) none,
        answerOf 2 (.request (.saleDone 2301)) (some 14)],
      collectAnswer [] a.frame = (a.frame, true) ∧ readLaneFrame a.frame = .answer a := by decide +kernel

/-- The stations RequestAnswered speaks of: a repeat, a busy one, a PENDING one and a free one; a
confirmed reply; a DOUBTFUL one on both sides of 64, and a LEAVING one. -/
theorem witness_RequestAnswered :
    ∀ r ∈ [{ fresh .good with lastRequest := some 15 }, cashierAt 14, fresh .pending, fresh .good,
        { cashierAt 14 with slot := some ⟨14, .noSuchSale, true⟩ },
        { fresh .doubtful with score := 64 }, { fresh .doubtful with score := 65 },
        { fresh .leaving with score := 1 }],
      (awaiting 2 .poll r).running = true ∧
      ((awaiting 2 .poll r).lane .a).exchange = some ⟨r.poll 2 .poll, []⟩ ∧
      (r.state = .good ∨ r.state = .doubtful ∨ r.state = .leaving ∨ r.state = .pending) ∧
      (answerOf 2 (.request (.saleCancel 2301)) (some 14)).address.toNat = 3 := by decide +kernel

theorem witness_RequestAnswered_part :
    let bytes := (answerOf 2 .nothing none).frame.dropLast
    collectAnswer [] bytes = (bytes, false) := by decide +kernel

/-- 10 R167: 64 falls to 63, and the DOUBTFUL station is GOOD. -/
theorem test_scoreDown :
    let t := after (.laneAnswer .a (answerOf 2 .nothing none).frame)
      (awaiting 2 .poll { fresh .doubtful with score := 64 })
    (t.station stA3).state = .good ∧ (t.station stA3).score = 63 ∧
      t.office.reports.map Report.kind = [68] := by decide +kernel

/-- 09 R158: a PENDING station's LEAVE drops the request that the lane answered itself. -/
theorem test_pendingLeave :
    let t := after (.laneAnswer .a (answerOf 2 .leave none).frame)
      (awaiting 2 .rollCall { fresh .pending with
        lastRequest := some 14, outstanding := some ⟨14, false⟩, slot := some ⟨14, .notServing, true⟩ })
    (t.station stA3) = { StationRecord.initial with state := .absent } := by decide +kernel

/-- 09 R161: a LANE_READ waits in its lane until the exchange is over. -/
theorem test_laneRead_waits :
    let s := awaiting 2 .poll (fresh .good)
    let u : State := { s with laneA := { s.laneA with inbox := [⟨1, .laneRead (some .a)⟩] } }
    let t := after (.answerTimeout .a) u
    after (.laneRead .a) u = u ∧
      (after (.laneRead .a) t).office.replies.map (fun r => (r.tag, r.reply.word)) = [(1, .ok)] := by
  decide +kernel

def settingsA (m : RecoveryMode) (s : State) : State :=
  { s with laneA := { s.laneA with settings := ⟨m, .first, 3, 200⟩ } }

theorem witness_JoinAndLeave :
    (∀ a : Fin 8, ∀ seen ∈ [none, some 14],
      (answerOf a .join seen).address.toNat = a.val + 1) ∧
    ∀ r ∈ [fresh .absent, fresh .pending, { fresh .pending with outstanding := some ⟨14, true⟩ },
        fresh .good, { fresh .good with contextFlag := some 2301 },
        { fresh .good with waits := 198 }, { fresh .doubtful with score := 64 },
        { fresh .doubtful with score := 65, contextFlag := some 2301 }, fresh .leaving,
        { fresh .dropped with score := 255, cleanCalls := 30 },
        { fresh .dropped with score := 255, cleanCalls := 31 },
        { fresh .dropped with score := 255, cleanCalls := 31, contextFlag := some 2301 }],
      ∀ k ∈ [PollKind.poll, .rollCall], ∀ m ∈ [RecoveryMode.auto, .holdAfter, .hostOnly, .holdAtDrop],
        let s := settingsA m (awaiting 7 k r)
        s.running = true ∧ (s.lane .a).exchange = some ⟨r.poll 7 k, []⟩ ∧ s.station ⟨.a, 7⟩ = r ∧
          (s.lane .a).settings.recovery = m ∧ (s.lane .a).settings.waitLimit = 200 := by decide +kernel

theorem witness_TimeoutScored :
    ∀ r ∈ [{ fresh .good with score := 87 }, { fresh .good with score := 88 },
        { fresh .doubtful with score := 247 }, { fresh .doubtful with score := 248, contextFlag := some 1 },
        { fresh .leaving with score := 248, waits := 199 }, { fresh .good with waits := 199 },
        fresh .dropped, { fresh .pending with silent := 6 }, { fresh .pending with silent := 7 },
        fresh .absent],
      ∀ m ∈ [RecoveryMode.auto, .holdAtDrop], let s := settingsA m (awaiting 7 .poll r)
        s.running = true ∧ (s.lane .a).exchange = some ⟨r.poll 7 .poll, []⟩ ∧ s.station ⟨.a, 7⟩ = r ∧
          (s.lane .a).settings.recovery = m ∧ (s.lane .a).settings.waitLimit = 200 := by decide +kernel

/-- The frames that end an exchange in a failure: a wrong check, a kind that 13.3 does not give, another
address, and the WAIT that reaches the limit of 200. -/
theorem witness_TimeoutScored_frames :
    let good := (answerOf 7 .nothing none).frame
    let badCheck := good.dropLast ++ [good.getLastD 0 + 1]
    let badForm := laneFrame [8, 9, 15, 0, 0, 0]
    let wrong := answerOf 6 .nothing none
    let wait := answerOf 7 .wait none
    (collectAnswer [] badCheck = (badCheck, true) ∧ readLaneFrame badCheck = .badCheck) ∧
    (collectAnswer [] badForm = (badForm, true) ∧ readLaneFrame badForm = .badForm) ∧
    (readLaneFrame wrong.frame = .answer wrong ∧ wrong.address.toNat ≠ 8) ∧
    (readLaneFrame wait.frame = .answer wait ∧ wait.address.toNat = 8 ∧ 200 ≤ 199 + 1) := by
  decide +kernel

theorem witness_LaneRequests :
    ∀ m ∈ [LaneMode.off, .paused, .running],
      ∀ r ∈ [HostRequest.laneSet (some .a) .off, .laneSet (some .a) .paused, .laneSet (some .a) .running,
          .laneSettings (some .a) .auto .first 0 0, .laneSettings (some .a) .auto .first 1 1,
          .laneSettings (some .a) .hostOnly .all 15 1000, .laneSettings (some .a) .auto .first 16 1001,
          .clearLineStuck (some .a)],
        (asksLane m r).running = true ∧ ((asksLane m r).lane .a).inbox = [⟨1, r⟩] ∧
        ((asksLane m r).lane .a).mode = m := by decide +kernel

theorem witness_StationRequests :
    ∀ x ∈ [StationState.absent, .pending, .good, .doubtful, .dropped, .held, .leaving],
      ∀ r ∈ [HostRequest.enroll (some ⟨.a, 7⟩) .supervisor, .release (some ⟨.a, 7⟩),
          .restore (some ⟨.a, 7⟩), .clearStationErrors (some ⟨.a, 7⟩)],
        let s := withStation ⟨.a, 7⟩ (fresh x) (asksLane .running r)
        s.running = true ∧ (s.lane .a).inbox = [⟨1, r⟩] ∧ (s.station ⟨.a, 7⟩).state = x ∧
        (s.station ⟨.a, 7⟩).contextFlag = none := by decide +kernel

/-! ### Witnesses: power -/

def power (p : PowerState) (held : Bool) (due : Option DueStart) : State :=
  { sold with hall := { sold.hall with power := p, resetHeld := held, startDue := due } }

theorem witness_StopsAndReturns :
    ∀ p ∈ [PowerState.run, .retain], ∀ held ∈ [true, false],
      ∀ due ∈ [none, some (DueStart.warm .supply), some (.cold false)],
        (power p held due).hall.power = p ∧ (power p held due).hall.resetHeld = held ∧
        (power p held due).hall.startDue = due ∧ due ≠ some (.warm .softReset) := by decide +kernel

theorem witness_Starts :
    (∀ due ∈ [DueStart.warm .supply, .cold true, .cold false],
      (power .run false (some due)).hall.power = .run ∧
      (power .run false (some due)).hall.resetHeld = false ∧
      (power .run false (some due)).hall.startDue = some due) ∧
    (power .run false (some (.warm .supply))).sale.contexts.length = 1 := by decide +kernel

theorem witness_Starts_laws :
    let s := power .run false (some (.warm .supply))
    s.sale.Numbered ∧ s.sale.CardsHeld ∧ s.office.Within :=
  ⟨⟨by decide +kernel, by decide +kernel, by decide +kernel, by decide +kernel⟩, lawful_cards,
    ⟨by decide +kernel, by decide +kernel, by decide +kernel, by decide +kernel⟩⟩

/-- 12 R196, 04 R86: the warm start moves the ordered context to doubt and voids the one not sent. -/
theorem test_warmStart :
    let start (s : State) := after .warmStart
      { s with hall := { s.hall with startDue := some (.warm .supply) } }
    (start polled).sale.doubts.map (fun d => (d.data.sale, d.cause)) = [(2301, .warmStart)] ∧
    (start sold).sale.credits.map (·.state) = [.pending] ∧ (start sold).sale.doubts = [] ∧
    (start sold).sale.memory.map (fun r => (r.card, r.inUse)) = [(150600, none)] ∧
    (start sold).office.reports.map Report.kind = [77] := by decide +kernel

/-- 12 R196, 08 R144: the start's event is taken by both units before anything else; the READY set is swapped
though a TARIFF_BEGIN frame arrives first, and the reports follow WARM_START. -/
theorem test_warmStart_settles :
    let s := after .warmStart { hall17 with
      hall := { hall17.hall with startDue := some (.warm .supply) }
      clock := { clock17 with minute := 700 }
      tariff := { tariff17 with staging := .ready staged17 } }
    let held : List Instr := [.officeFrameReceived (officeFrame 18 1 []) none, .sendPoll .a, .frameSendStart]
    let swapped := after .tariffBoundarySwap s
    let whole := after .periodCounterCapture swapped
    s.started = true ∧ (∀ c ∈ held, after c s = s ∧ after c swapped = swapped) ∧ whole.running = true ∧
    whole.tariff.generation = 2 ∧
    whole.office.reports.map Report.ctorIdx =
      [Report.ctorIdx (.warmStart .supply none ⟨0, 0⟩ .setup 0 0),
        Report.ctorIdx (.tariffSwapped 0 0 0 .host ⟨0, 0⟩),
        Report.ctorIdx (.periodChanged boundary17 .zero)] := by decide +kernel

end Sys2Proof.Tests
end

