-- ==== Sys2Proof/Proofs/Subsidy.lean ====
section
/-! PROOFS. The rounding of the subsidy (02 R25). -/

namespace Sys2Proof.Machine

open Sys2Proof

theorem subsidyOf_eq (g s : Nat) : subsidyOf g s = (g * s + 5000) / 10000 := rfl

/-- The rounded subsidy is at most half a cent above the exact product: halves go up. -/
theorem subsidyOf_mul_le (g s : Nat) : 10000 * subsidyOf g s ≤ g * s + 5000 :=
  Nat.mul_div_le (g * s + 5000) 10000

/-- The rounded subsidy is less than half a cent below the exact product. -/
theorem lt_subsidyOf_succ_mul (g s : Nat) : g * s + 5000 < 10000 * (subsidyOf g s + 1) :=
  Nat.lt_mul_div_succ (g * s + 5000) (by decide)

/-- The two bounds leave one value: 5,000 added to a whole number of cents is never a cent more. -/
theorem subsidyOf_full (g : Nat) : subsidyOf g 10000 = g := by
  have upper := subsidyOf_mul_le g 10000
  have lower := lt_subsidyOf_succ_mul g 10000
  omega

theorem subsidyOf_zero (g : Nat) : subsidyOf g 0 = 0 := by
  have upper := subsidyOf_mul_le g 0
  omega

theorem subsidyOf_mono (g : Nat) {s t : Nat} (h : s ≤ t) : subsidyOf g s ≤ subsidyOf g t :=
  Nat.div_le_div_right (Nat.add_le_add_right (Nat.mul_le_mul_left g h) 5000)

/-- A rate within the table's 10,000 basis points takes no more than the full rate, which takes the gross. -/
theorem subsidyOf_le {s : Nat} (g : Nat) (h : s ≤ 10000) : subsidyOf g s ≤ g :=
  calc subsidyOf g s ≤ subsidyOf g 10000 := subsidyOf_mono g h
    _ = g := subsidyOf_full g

/-- Settles O25: the formula's two bounds, the full and the zero rate, and the rows of R25's table, of which the
last two are the full and the zero rate. -/
theorem subsidyRounding : Obligations.SubsidyRounding := by
  refine ⟨fun g s => ?_, ?rows⟩
  · exact ⟨subsidyOf_eq g s, subsidyOf_mul_le g s, lt_subsidyOf_succ_mul g s, subsidyOf_le g,
      subsidyOf_full g, subsidyOf_zero g⟩
  case rows =>
    exact ⟨by decide, by decide, by decide, by decide, subsidyOf_full 999999, subsidyOf_zero 640⟩

end Sys2Proof.Machine
end

