-- ==== Sys2Proof/Proofs/CardClasses.lean ====
section
/-! PROOFS. The requests that the Card Class Decoder takes: the Stop List (03 R46 to R48), the range table
and the default class (03 R49 to R51). -/

namespace Sys2Proof.Machine

open Sys2Proof

/-! ### A request taken by the decoder -/

section Taken

variable {s : State} {tag : Byte} {rest : List Handed} {d : Decoder} {r : HostReply}

theorem whenRunning_decoderTakes {h : Handed} {f : Decoder → Decoder × HostReply}
    (hr : s.running = true) (hf : f { s.decoder with inbox := rest } = (d, r)) :
    whenRunning s (s.decoderTakes h rest f) = .next ({ s with decoder := d }.reply h r) := by
  rw [whenRunning_running hr, State.decoderTakes, hf]

theorem exec_stopAdd {cards : List Nat} (hr : s.running = true)
    (hi : s.decoder.inbox = ⟨tag, .stopAdd cards⟩ :: rest)
    (hd : Decoder.stopAdd { s.decoder with inbox := rest } cards = (d, r)) :
    exec .stopAdd s = .next ({ s with decoder := d }.reply ⟨tag, .stopAdd cards⟩ r) := by
  simp only [exec, execStopAdd, hi]
  exact whenRunning_decoderTakes hr hd

theorem exec_stopRemove {cards : List Nat} (hr : s.running = true)
    (hi : s.decoder.inbox = ⟨tag, .stopRemove cards⟩ :: rest)
    (hd : Decoder.stopRemove { s.decoder with inbox := rest } cards = (d, r)) :
    exec .stopRemove s = .next ({ s with decoder := d }.reply ⟨tag, .stopRemove cards⟩ r) := by
  simp only [exec, execStopRemove, hi]
  exact whenRunning_decoderTakes hr hd

theorem exec_stopClear (hr : s.running = true) (hi : s.decoder.inbox = ⟨tag, .stopClear⟩ :: rest)
    (hd : Decoder.stopClear { s.decoder with inbox := rest } = (d, r)) :
    exec .stopClear s = .next ({ s with decoder := d }.reply ⟨tag, .stopClear⟩ r) := by
  simp only [exec, execStopClear, hi]
  exact whenRunning_decoderTakes hr hd

theorem exec_rangeSet {n first last group : Nat} {purse allowance : Bool} (hr : s.running = true)
    (hi : s.decoder.inbox = ⟨tag, .rangeSet n first last group purse allowance⟩ :: rest)
    (hd : Decoder.rangeSet { s.decoder with inbox := rest } n
      ⟨first, last, group, purse, allowance⟩ = (d, r)) :
    exec .rangeSet s = .next ({ s with decoder := d }.reply
      ⟨tag, .rangeSet n first last group purse allowance⟩ r) := by
  simp only [exec, execRangeSet, hi]
  exact whenRunning_decoderTakes hr hd

theorem exec_rangeClear {n : Nat} (hr : s.running = true)
    (hi : s.decoder.inbox = ⟨tag, .rangeClear n⟩ :: rest)
    (hd : Decoder.rangeClear { s.decoder with inbox := rest } n = (d, r)) :
    exec .rangeClear s = .next ({ s with decoder := d }.reply ⟨tag, .rangeClear n⟩ r) := by
  simp only [exec, execRangeClear, hi]
  exact whenRunning_decoderTakes hr hd

theorem exec_rangeDefault {g : Option Nat} (hr : s.running = true)
    (hi : s.decoder.inbox = ⟨tag, .rangeDefault g⟩ :: rest)
    (hd : Decoder.rangeDefault { s.decoder with inbox := rest } g = (d, r)) :
    exec .rangeDefault s = .next ({ s with decoder := d }.reply ⟨tag, .rangeDefault g⟩ r) := by
  simp only [exec, execRangeDefault, hi]
  exact whenRunning_decoderTakes hr hd

end Taken

/-! ### What the requests do to the decoder -/

theorem stopAdd_refused (d : Decoder) {cards : List Nat} (h : cards = [] ∨ 16 < cards.length) :
    d.stopAdd cards = (d, .badRequest) :=
  if_pos (h.imp_left List.length_eq_zero_iff.2)

theorem stopAdd_taken (d : Decoder) {cards : List Nat} (hne : cards ≠ []) (hle : cards.length ≤ 16) :
    d.stopAdd cards = ({ d with stop := (stopAddAll d.stop cards).1 },
      .stopResults (stopAddAll d.stop cards).2 (stopAddAll d.stop cards).1.length) :=
  if_neg (not_or.2 ⟨mt List.length_eq_zero_iff.1 hne, Nat.not_lt.2 hle⟩)

theorem stopRemove_refused (d : Decoder) {cards : List Nat} (h : cards = [] ∨ 16 < cards.length) :
    d.stopRemove cards = (d, .badRequest) :=
  if_pos (h.imp_left List.length_eq_zero_iff.2)

theorem stopRemove_taken (d : Decoder) {cards : List Nat} (hne : cards ≠ [])
    (hle : cards.length ≤ 16) :
    d.stopRemove cards = ({ d with stop := (stopRemoveAll d.stop cards).1 },
      .stopResults (stopRemoveAll d.stop cards).2 (stopRemoveAll d.stop cards).1.length) :=
  if_neg (not_or.2 ⟨mt List.length_eq_zero_iff.1 hne, Nat.not_lt.2 hle⟩)

theorem rangeSet_refused (d : Decoder) {n : Nat} {r : CardRange}
    (h : 15 < n ∨ r.last < r.first ∨ 7 < r.group) : d.rangeSet n r = (d, .badRequest) :=
  if_pos h

theorem rangeSet_taken (d : Decoder) (k : Fin 16) {r : CardRange} (hr : r.first ≤ r.last)
    (hg : r.group ≤ 7) :
    d.rangeSet k r = ({ d with ranges := d.ranges.setN k (some r) },
      .formerRange (d.ranges.getN k)) := by
  rw [Decoder.rangeSet, if_neg (by omega), Fin.ofNat_val_eq_self]

theorem rangeClear_refused (d : Decoder) {n : Nat} (h : 15 < n) :
    d.rangeClear n = (d, .badRequest) :=
  if_pos h

theorem rangeClear_taken (d : Decoder) (k : Fin 16) :
    d.rangeClear k = ({ d with ranges := d.ranges.setN k none }, .formerRange (d.ranges.getN k)) := by
  rw [Decoder.rangeClear, if_neg (by omega), Fin.ofNat_val_eq_self]

/-- R51: the group byte of an absent group is not looked at. -/
theorem rangeDefault_eq (d : Decoder) (g : Option Nat) :
    d.rangeDefault g = if ∃ k ∈ g, 7 < k then (d, .badRequest)
      else ({ d with defaultClass := g }, .formerDefault d.defaultClass) := by
  cases g <;> simp [Decoder.rangeDefault]

/-! ### The numbers of STOP_ADD (03 R46) -/

theorem stopAddAll_length_results (stop cards : List Nat) :
    (stopAddAll stop cards).2.length = cards.length := by
  fun_induction stopAddAll stop cards with
  | case1 => rfl
  | case2 stop n ns hmem ih => exact congrArg (· + 1) ih
  | case3 stop n ns hnew hroom ih => exact congrArg (· + 1) ih
  | case4 stop n ns hnew hfull ih => exact congrArg (· + 1) ih

/-- R43: a number joins only a list it is not on and that has room. -/
theorem stopAddAll_ordered {stop : List Nat} (cards : List Nat) (h : stop.Pairwise (· < ·))
    (hl : stop.length ≤ 512) :
    (stopAddAll stop cards).1.Pairwise (· < ·) ∧ (stopAddAll stop cards).1.length ≤ 512 := by
  fun_induction stopAddAll stop cards with
  | case1 => exact ⟨h, hl⟩
  | case2 stop n ns hmem ih => exact ih h hl
  | case3 stop n ns hnew hroom ih =>
    exact ih (insertAscending_pairwise h hnew) (by rw [length_insertAscending]; exact hroom)
  | case4 stop n ns hnew hfull ih => exact ih h hl

theorem mem_stopAddAll_of_mem {stop : List Nat} (cards : List Nat) {m : Nat} (h : m ∈ stop) :
    m ∈ (stopAddAll stop cards).1 := by
  fun_induction stopAddAll stop cards with
  | case1 => exact h
  | case2 stop n ns hmem ih => exact ih h
  | case3 stop n ns hnew hroom ih => exact ih (mem_insertAscending.2 (.inr h))
  | case4 stop n ns hnew hfull ih => exact ih h

theorem mem_or_mem_of_mem_stopAddAll {stop cards : List Nat} {m : Nat}
    (h : m ∈ (stopAddAll stop cards).1) : m ∈ stop ∨ m ∈ cards := by
  fun_induction stopAddAll stop cards with
  | case1 => exact .inl h
  | case2 stop n ns hmem ih => exact (ih h).imp_right (List.mem_cons_of_mem n)
  | case3 stop n ns hnew hroom ih =>
    rcases ih h with hins | hns
    · exact (mem_insertAscending.1 hins).symm.imp_right fun e => List.mem_cons.2 (.inl e)
    · exact .inr (List.mem_cons_of_mem n hns)
  | case4 stop n ns hnew hfull ih => exact (ih h).imp_right (List.mem_cons_of_mem n)

/-- A full list takes no number and answers none ADDED. -/
theorem stopAddAll_of_full {stop : List Nat} (cards : List Nat) (h : ¬ stop.length < 512) :
    (stopAddAll stop cards).1 = stop ∧ .added ∉ (stopAddAll stop cards).2 := by
  fun_induction stopAddAll stop cards with
  | case1 => exact ⟨rfl, List.not_mem_nil⟩
  | case2 stop n ns hmem ih => exact ⟨(ih h).1, by simpa using (ih h).2⟩
  | case3 stop n ns hnew hroom ih => exact absurd hroom h
  | case4 stop n ns hnew hfull ih => exact ⟨(ih h).1, by simpa using (ih h).2⟩

/-- A number that is not there in the end met a full list. -/
theorem full_of_not_mem_stopAddAll {stop cards : List Nat} {m : Nat} (hm : m ∈ cards)
    (h : m ∉ (stopAddAll stop cards).1) : ¬ (stopAddAll stop cards).1.length < 512 := by
  fun_induction stopAddAll stop cards with
  | case1 => exact absurd hm List.not_mem_nil
  | case2 stop n ns hmem ih =>
    rcases List.mem_cons.1 hm with rfl | hns
    · exact absurd (mem_stopAddAll_of_mem ns hmem) h
    · exact ih hns h
  | case3 stop n ns hnew hroom ih =>
    rcases List.mem_cons.1 hm with rfl | hns
    · exact absurd (mem_stopAddAll_of_mem ns (mem_insertAscending.2 (.inl rfl))) h
    · exact ih hns h
  | case4 stop n ns hnew hfull ih =>
    simpa only [(stopAddAll_of_full ns hfull).1] using hfull

/-- After the first FULL no number is ADDED. -/
theorem stopAddAll_no_added_after_full (stop cards : List Nat) :
    (stopAddAll stop cards).2.Pairwise fun a b => a = .full → b ≠ .added := by
  fun_induction stopAddAll stop cards with
  | case1 => exact .nil
  | case2 stop n ns hmem ih => exact .cons (by simp) ih
  | case3 stop n ns hnew hroom ih => exact .cons (by simp) ih
  | case4 stop n ns hnew hfull ih =>
    exact .cons (fun b hb _ e => (stopAddAll_of_full ns hfull).2 (e ▸ hb)) ih

/-- R46: each number's own result, told from the list before and after the request and from the numbers
before it in the request. -/
theorem stopAddAll_result {stop cards : List Nat} {i n : Nat} (hi : cards[i]? = some n) :
    (stopAddAll stop cards).2[i]? = some (
      if n ∉ (stopAddAll stop cards).1 then .full
      else if n ∈ stop ∨ n ∈ cards.take i then .already
      else .added) := by
  fun_induction stopAddAll stop cards generalizing i with
  | case1 => simp at hi
  | case2 stop m ns hmem ih =>
    cases i with
    | zero =>
      obtain rfl : m = n := by simpa using hi
      simp [hmem, mem_stopAddAll_of_mem ns hmem]
    | succ i =>
      have hsame : n = m → n ∈ stop := fun e => e ▸ hmem
      have hor : (n ∈ stop ∨ n = m ∨ n ∈ ns.take i) ↔ (n ∈ stop ∨ n ∈ ns.take i) := by tauto
      simpa [hor] using ih (by simpa using hi)
  | case3 stop m ns hnew hroom ih =>
    cases i with
    | zero =>
      obtain rfl : m = n := by simpa using hi
      simp [hnew, mem_stopAddAll_of_mem ns (mem_insertAscending.2 (.inl rfl))]
    | succ i =>
      have hor : (n ∈ stop ∨ n = m ∨ n ∈ ns.take i) ↔ ((n = m ∨ n ∈ stop) ∨ n ∈ ns.take i) := by tauto
      simpa [hor, mem_insertAscending] using ih (by simpa using hi)
  | case4 stop m ns hnew hfull ih =>
    have hkept := (stopAddAll_of_full ns hfull).1
    cases i with
    | zero =>
      obtain rfl : m = n := by simpa using hi
      simp [hkept, hnew]
    | succ i =>
      have hat := ih (i := i) (by simpa using hi)
      by_cases hn : n ∈ stop <;> simpa [hkept, hn] using hat

/-- Settles O40: the list by what each number does to it, the results by their one formula, whose three answers
exclude each other. -/
theorem stopAddTakes : Obligations.StopAddTakes := by
  intro s tag cards rest hr hi ⟨hasc, hsize⟩
  refine ⟨fun h => exec_stopAdd hr hi (stopAdd_refused _ h), fun hne hle => ?_⟩
  have hlen := stopAddAll_length_results s.decoder.stop cards
  obtain ⟨hpair, hbound⟩ := stopAddAll_ordered cards hasc hsize
  refine ⟨_, _, exec_stopAdd hr hi (stopAdd_taken _ hne hle), hpair, hbound, hlen,
    fun n => mem_stopAddAll_of_mem cards, fun n => mem_or_mem_of_mem_stopAddAll,
    fun n hn hout => ?missing, fun i n hin => ?result⟩
  case missing =>
    exact Nat.le_antisymm hbound (Nat.not_lt.1 (full_of_not_mem_stopAddAll hn hout))
  case result =>
    have hat := stopAddAll_result (stop := s.decoder.stop) hin
    refine ⟨?added, ?already, ?full, fun j hji hfull hadded => ?order⟩
    case order =>
      obtain ⟨hj, hfull⟩ := List.getElem?_eq_some_iff.1 hfull
      obtain ⟨hi', hadded⟩ := List.getElem?_eq_some_iff.1 hadded
      exact List.pairwise_iff_getElem.1 (stopAddAll_no_added_after_full s.decoder.stop cards)
        j i hj hi' hji hfull hadded
    all_goals
      rw [hat]
      grind

/-! ### The numbers of STOP_REMOVE (03 R47) -/

theorem stopRemoveAll_length_results (stop cards : List Nat) :
    (stopRemoveAll stop cards).2.length = cards.length := by
  fun_induction stopRemoveAll stop cards with
  | case1 => rfl
  | case2 stop n ns hmem ih => exact congrArg (· + 1) ih
  | case3 stop n ns hnot ih => exact congrArg (· + 1) ih

/-- On a list without repeats, the first occurrence erased is the only one. -/
theorem stopRemoveAll_stop {stop : List Nat} (cards : List Nat) (h : stop.Nodup) :
    (stopRemoveAll stop cards).1 = stop.filter fun n => n ∉ cards := by
  fun_induction stopRemoveAll stop cards with
  | case1 stop => simp
  | case2 stop n ns hmem ih =>
    rw [ih (h.erase n), h.erase_eq_filter, List.filter_filter]
    exact List.filter_congr fun m _ => by rw [Bool.eq_iff_iff]; simp [and_comm]
  | case3 stop n ns hnot ih =>
    rw [ih h]
    refine List.filter_congr fun m hm => ?_
    have hne : m ≠ n := fun e => hnot (e ▸ hm)
    simp [hne]

/-- R47: a number is REMOVED where it stands on the list and the request has not named it before. -/
theorem stopRemoveAll_result {stop cards : List Nat} (h : stop.Nodup) {i n : Nat}
    (hi : cards[i]? = some n) :
    (stopRemoveAll stop cards).2[i]? =
      some (if n ∈ stop ∧ n ∉ cards.take i then .removed else .absent) := by
  fun_induction stopRemoveAll stop cards generalizing i with
  | case1 => simp at hi
  | case2 stop m ns hmem ih =>
    cases i with
    | zero =>
      obtain rfl : m = n := by simpa using hi
      simp [hmem]
    | succ i =>
      have hat := ih (h.erase m) (i := i) (by simpa using hi)
      simpa [h.mem_erase_iff, and_left_comm, and_assoc] using hat
  | case3 stop m ns hnot ih =>
    cases i with
    | zero =>
      obtain rfl : m = n := by simpa using hi
      simp [hnot]
    | succ i =>
      have hne : n ∈ stop → n ≠ m := fun hn e => hnot (e ▸ hn)
      have hand : (n ∈ stop ∧ n ≠ m ∧ n ∉ ns.take i) ↔ (n ∈ stop ∧ n ∉ ns.take i) := by tauto
      simpa [hand] using ih h (i := i) (by simpa using hi)

/-- Settles O41: the list left is the filtered one, since an ordered list has no repeats. -/
theorem stopRemoveTakes : Obligations.StopRemoveTakes := by
  intro s tag cards rest hr hi ⟨hasc, _⟩
  have hnodup : s.decoder.stop.Nodup := hasc.imp Nat.ne_of_lt
  refine ⟨fun h => exec_stopRemove hr hi (stopRemove_refused _ h), fun hne hle => ?_⟩
  refine ⟨(stopRemoveAll s.decoder.stop cards).2, ?_, stopRemoveAll_length_results _ cards,
    fun i n hin => stopRemoveAll_result hnodup hin⟩
  rw [← stopRemoveAll_stop cards hnodup]
  exact exec_stopRemove hr hi (stopRemove_taken _ hne hle)

/-! ### The range table and the default class (03 R49 to R51) -/

/-- Settles O43: each request's refusal and its write, the written table read back by the laws of the
sixteen places. -/
theorem rangeRequests : Obligations.RangeRequests := by
  intro s tag rest hr
  refine ⟨fun n first last group purse allowance hi => ⟨fun h => ?_, ?set⟩,
    fun n hi => ⟨fun h => ?_, ?clear⟩, fun g hi => ?default⟩
  · exact exec_rangeSet hr hi (rangeSet_refused _ h)
  case set =>
    rintro k rfl hrange hgroup
    exact ⟨_, exec_rangeSet hr hi (rangeSet_taken _ k hrange hgroup), Sixteen.getN_setN_self _ k _,
      fun j hj => Sixteen.getN_setN_other _ hj _, rfl, rfl, rfl⟩
  · exact exec_rangeClear hr hi (rangeClear_refused _ h)
  case clear =>
    rintro k rfl
    exact ⟨_, exec_rangeClear hr hi (rangeClear_taken _ k), Sixteen.getN_setN_self _ k _,
      fun j hj => Sixteen.getN_setN_other _ hj _, rfl, rfl, rfl⟩
  case default =>
    have hd := rangeDefault_eq { s.decoder with inbox := rest } g
    split
    next hover => exact exec_rangeDefault hr hi (hd.trans (if_pos hover))
    next hwithin => exact exec_rangeDefault hr hi (hd.trans (if_neg hwithin))

/-! ### STOP_CLEAR (03 R48) -/

/-- Settles O42: the write is to the Stop List and the inbox alone. -/
theorem stopClearEmpties : Obligations.StopClearEmpties := by
  intro s tag rest hr hi
  exact ⟨{ s.decoder with inbox := rest, stop := [] }, exec_stopClear hr hi rfl, rfl, rfl, rfl, rfl⟩

end Sys2Proof.Machine
end

/-! PROOFS. Credit orders: the host's requests about them (06 R107, R108), and that an order is RIDING exactly
while a sale in flight names it (06 R105). -/

namespace Sys2Proof.Machine

open Sys2Proof

/-! ### Places in the Credit List (06 R106) -/

section Places

variable {credits : List CreditOrder} {id : Nat}

theorem find_placeOrders_absent (k : Nat) (h : ∀ o ∈ credits, o.id ≠ id) :
    (placeOrders k credits).find? (fun p => p.order.id = id) = none := by
  induction credits generalizing k with
  | nil => rfl
  | cons x xs ih =>
    obtain ⟨hx, hxs⟩ := List.forall_mem_cons.mp h
    simp [placeOrders, hx, ih (k + 1) hxs]

theorem mem_order_of_mem_placeOrders {k : Nat} {p : PlacedOrder} (hp : p ∈ placeOrders k credits) :
    p.order ∈ credits := by
  induction credits generalizing k with
  | nil => simp [placeOrders] at hp
  | cons x xs ih =>
    rcases List.mem_cons.mp hp with rfl | hp
    · exact List.mem_cons_self
    · exact List.mem_cons_of_mem x (ih hp)

theorem mem_of_find_placeOrders {k : Nat} {p : PlacedOrder}
    (hp : (placeOrders k credits).find? (fun p => p.order.id = id) = some p) :
    p.order ∈ credits ∧ p.order.id = id :=
  ⟨mem_order_of_mem_placeOrders (List.mem_of_find?_eq_some hp), by simpa using List.find?_some hp⟩

theorem exists_place {o : CreditOrder} (k : Nat) (ho : o ∈ credits) :
    ∃ p ∈ placeOrders k credits, p.order = o := by
  induction credits generalizing k with
  | nil => simp at ho
  | cons x xs ih =>
    rcases List.mem_cons.mp ho with rfl | ho
    · exact ⟨⟨k, o⟩, List.mem_cons_self, rfl⟩
    · obtain ⟨p, hp, hpo⟩ := ih (k + 1) ho
      exact ⟨p, List.mem_cons_of_mem _ hp, hpo⟩

theorem absent_of_find_placeOrders {k : Nat}
    (hp : (placeOrders k credits).find? (fun p => p.order.id = id) = none) :
    ∀ o ∈ credits, o.id ≠ id := fun o ho => by
  obtain ⟨p, hp', rfl⟩ := exists_place k ho
  simpa using List.find?_eq_none.mp hp p hp'

/-- The first order with the id is found with its place, the list's first place being `k`. -/
theorem find_placeOrders_first (k : Nat) {i : Nat} {o : CreditOrder} (hi : credits[i]? = some o)
    (hid : o.id = id) (hfirst : ∀ j x, credits[j]? = some x → j < i → x.id ≠ id) :
    (placeOrders k credits).find? (fun p => p.order.id = id) = some ⟨k + i, o⟩ := by
  induction credits generalizing k i with
  | nil => simp at hi
  | cons x xs ih =>
    cases i with
    | zero =>
      obtain rfl : x = o := by simpa using hi
      simp [placeOrders, hid]
    | succ i =>
      have hx : x.id ≠ id := hfirst 0 x rfl (by omega)
      have hrest := ih (k + 1) (i := i) hi fun j y hj hlt => hfirst (j + 1) y hj (by omega)
      simp [placeOrders, hx, hrest, Nat.add_assoc, Nat.add_comm 1]

theorem find_placeOrders_after (k : Nat) {before after : List CreditOrder} {o : CreditOrder}
    (hid : o.id = id) (hbefore : ∀ x ∈ before, x.id ≠ id) :
    (placeOrders k (before ++ o :: after)).find? (fun p => p.order.id = id) =
      some ⟨k + before.length, o⟩ := by
  refine find_placeOrders_first k (by simp) hid fun j x hj hlt => hbefore x ?_
  rw [List.getElem?_append_left hlt] at hj
  exact List.mem_of_getElem? hj

theorem removeOrders_singleton {before after : List CreditOrder} {o : CreditOrder} (hid : o.id = id)
    (hothers : ∀ x ∈ before ++ after, x.id ≠ id) :
    removeOrders [id] (before ++ o :: after) = before ++ after := by
  have keeps : ∀ l : List CreditOrder, (∀ x ∈ l, x ∈ before ++ after) → removeOrders [id] l = l :=
    fun l hl => List.filter_eq_self.mpr fun x hx => by simpa using hothers x (hl x hx)
  have hb := keeps before fun x hx => List.mem_append_left _ hx
  have ha := keeps after fun x hx => List.mem_append_right _ hx
  unfold removeOrders at ha hb ⊢
  rw [List.filter_append, List.filter_cons_of_neg (by simp [hid]), ha, hb]

end Places

/-! ### CREDIT_ORDER (06 R107) -/

section CreditOrder

variable {s : State} {h : Handed} {id card amount : Nat}

theorem exec_creditOrder {tag : Byte} (hr : s.running = true)
    (hq : s.nextRequest = some (.host ⟨tag, .creditOrder id card amount⟩)) :
    exec .creditOrder s =
      .next (s.dequeued.creditOrder ⟨tag, .creditOrder id card amount⟩ id card amount) := by
  show whenRunning s _ = _
  rw [whenRunning_running hr, hq]

theorem creditOrder_badAmount (ha : amount < 1 ∨ 100000 < amount) :
    s.creditOrder h id card amount = s.reply h (.badAmount amount) := if_pos ha

theorem creditOrder_duplicate {p : PlacedOrder} (ha : ¬ (amount < 1 ∨ 100000 < amount))
    (hp : (placeOrders 1 s.sale.credits).find? (fun p => p.order.id = id) = some p) :
    s.creditOrder h id card amount =
      s.reply h (.duplicateOrder p.order.card p.order.amount p.order.state p.place) := by
  simp only [State.creditOrder, if_neg ha, hp]

theorem creditOrder_full (ha : ¬ (amount < 1 ∨ 100000 < amount))
    (hid : ∀ o ∈ s.sale.credits, o.id ≠ id) (hn : 1024 ≤ s.sale.credits.length) :
    s.creditOrder h id card amount = s.reply h (.creditsFull s.sale.credits.length) := by
  simp only [State.creditOrder, if_neg ha, find_placeOrders_absent 1 hid]
  exact if_pos hn

theorem creditOrder_placed (ha : ¬ (amount < 1 ∨ 100000 < amount))
    (hid : ∀ o ∈ s.sale.credits, o.id ≠ id) (hn : s.sale.credits.length < 1024) :
    s.creditOrder h id card amount =
      (s.mapCredits fun l => l ++ [⟨id, card, amount, .pending⟩]).reply h
        (.orderPlaced (s.sale.credits.length + 1) (s.sale.credits.length + 1)) := by
  simp only [State.creditOrder, if_neg ha, find_placeOrders_absent 1 hid]
  exact if_neg (Nat.not_le.mpr hn)

end CreditOrder

/-! ### CANCEL_CREDIT (06 R108) -/

section CancelCredit

variable {s : State} {h : Handed} {id : Nat}

theorem exec_cancelCredit {tag : Byte} (hr : s.running = true)
    (hq : s.nextRequest = some (.host ⟨tag, .cancelCredit id⟩)) :
    exec .cancelCredit s = .next (s.dequeued.cancelCredit ⟨tag, .cancelCredit id⟩ id) := by
  show whenRunning s _ = _
  rw [whenRunning_running hr, hq]

theorem cancelCredit_absent (hid : ∀ o ∈ s.sale.credits, o.id ≠ id) :
    s.cancelCredit h id = s.reply h .noSuchOrder := by
  simp only [State.cancelCredit, find_placeOrders_absent 1 hid]

variable {p : PlacedOrder}

theorem cancelCredit_riding {n : Nat}
    (hp : (placeOrders 1 s.sale.credits).find? (fun p => p.order.id = id) = some p)
    (hn : p.order.state = .riding n) :
    s.cancelCredit h id = s.reply h (.orderRiding p.order.card p.order.amount n) := by
  simp only [State.cancelCredit, hp, hn]

theorem cancelCredit_pending
    (hp : (placeOrders 1 s.sale.credits).find? (fun p => p.order.id = id) = some p)
    (hn : p.order.state = .pending) :
    s.cancelCredit h id = (s.mapCredits (removeOrders [id])).reply h
      (.orderCancelled p.order.card p.order.amount p.place (removeOrders [id] s.sale.credits).length) := by
  simp only [State.cancelCredit, hp, hn]
  rfl

end CancelCredit

/-- Settles O37: each outcome of the two requests from the order that the walk of the places finds. -/
theorem creditOrdersPlaced : Obligations.CreditOrdersPlaced := by
  intro s tag hr
  refine ⟨fun id card amount hq => ?order, fun id hq => ?cancel⟩
  case order =>
    rw [exec_creditOrder hr hq]
    refine ⟨fun ha => congrArg _ (creditOrder_badAmount ha), fun h1 h2 => ?_⟩
    have ha : ¬ (amount < 1 ∨ 100000 < amount) := by omega
    refine ⟨fun i o hi hid hfirst => ?_, fun hid => ⟨fun hn => ?_, fun hn => ?_⟩⟩
    · have hp := find_placeOrders_first 1 hi hid hfirst
      rw [Nat.add_comm] at hp
      exact congrArg _ (creditOrder_duplicate (s := s.dequeued) ha hp)
    · exact congrArg _ (creditOrder_full ha hid hn)
    · exact congrArg _ (creditOrder_placed ha hid hn)
  case cancel =>
    rw [exec_cancelCredit hr hq]
    refine ⟨fun hid => congrArg _ (cancelCredit_absent hid), fun before o after hl hid hothers => ?_⟩
    have hp : (placeOrders 1 s.dequeued.sale.credits).find? (fun p => p.order.id = id) =
        some ⟨1 + before.length, o⟩ := by
      rw [State.dequeued_sale_credits, hl]
      exact find_placeOrders_after 1 hid fun x hx => hothers x (List.mem_append_left _ hx)
    refine ⟨fun n hn => congrArg _ (cancelCredit_riding hp hn), fun hn => ?_⟩
    rw [cancelCredit_pending hp hn, State.mapCredits, State.dequeued_sale_credits, hl,
      removeOrders_singleton hid hothers, Nat.add_comm 1]
    rfl

/-! ### The orders and the sales in flight -/

/-- All that R105 speaks of. -/
def SaleEngine.ledger (e : SaleEngine) : List CreditOrder × List SaleData := (e.credits, e.inFlight)

theorem heldNumbers_eq (e : SaleEngine) : e.heldNumbers = e.inFlight.map (·.sale) := by
  simp [SaleEngine.heldNumbers, SaleEngine.inFlight, Function.comp_def]

/-- R105 with the distinct sale numbers of 04 R64, by which an order's number tells whose it is. -/
structure SaleEngine.Rides (e : SaleEngine) : Prop where
  orders : e.OrdersRide
  numbers : (e.inFlight.map (·.sale)).Nodup

theorem rides_of_journalLaw {s : State} (hj : s.JournalLaw) (ho : s.sale.OrdersRide) : s.sale.Rides :=
  ⟨ho, heldNumbers_eq s.sale ▸ hj.numbered.distinct⟩

section Ledger

variable {e e' : SaleEngine} {d : SaleData}

theorem SaleEngine.OrdersRide.order_unique (h : e.OrdersRide) {o x : CreditOrder} (ho : o ∈ e.credits)
    (hx : x ∈ e.credits) (hid : o.id = x.id) : o = x :=
  List.inj_on_of_nodup_map h.unique ho hx hid

/-- The order of which a sale in flight names the id rides on that sale. -/
theorem SaleEngine.OrdersRide.state_of_named (h : e.OrdersRide) {o : CreditOrder} (ho : o ∈ e.credits)
    (hd : d ∈ e.inFlight) (hid : o.id ∈ d.riding) : o.state = .riding d.sale := by
  obtain ⟨x, hx, hxid, hstate⟩ := h.named d hd o.id hid
  rwa [h.order_unique ho hx hxid.symm]

theorem SaleEngine.OrdersRide.of_perm (h : e.OrdersRide) (hc : e'.credits = e.credits)
    (hf : e'.inFlight.Perm e.inFlight) : e'.OrdersRide where
  unique := hc ▸ h.unique
  named := fun d hd => hc ▸ h.named d (hf.mem_iff.mp hd)
  riding := fun o ho n hn =>
    let ⟨d, hd, hnamed⟩ := h.riding o (hc ▸ ho) n hn
    ⟨d, hf.mem_iff.mpr hd, hnamed⟩
  few := fun d hd => h.few d (hf.mem_iff.mp hd)
  amounts := hc ▸ h.amounts
  total := fun d hd => h.total d (hf.mem_iff.mp hd)
  size := hc ▸ h.size

theorem SaleEngine.Rides.of_perm (h : e.Rides) (hc : e'.credits = e.credits)
    (hf : e'.inFlight.Perm e.inFlight) : e'.Rides :=
  ⟨h.orders.of_perm hc hf, (hf.map _).nodup_iff.mpr h.numbers⟩

theorem SaleEngine.OrdersRide.of_ledger (h : e.OrdersRide) (hl : e'.ledger = e.ledger) : e'.OrdersRide :=
  h.of_perm (congrArg Prod.fst hl) (.of_eq (congrArg Prod.snd hl))

theorem SaleEngine.Rides.of_ledger (h : e.Rides) (hl : e'.ledger = e.ledger) : e'.Rides :=
  h.of_perm (congrArg Prod.fst hl) (.of_eq (congrArg Prod.snd hl))

end Ledger

/-! ### A sale in flight ends (06 R111 to R113) -/

/-- What every end does to the orders it names: each leaves its place or is PENDING there. -/
structure LetGo (ids : List Nat) (l l' : List CreditOrder) : Prop where
  sublist : (l'.map (·.id)).Sublist (l.map (·.id))
  others : ∀ o, o.id ∉ ids → (o ∈ l' ↔ o ∈ l)
  named : ∀ o' ∈ l', o'.id ∈ ids → o'.state = .pending ∧ ∃ o ∈ l, o.amount = o'.amount

theorem letGo_removeOrders (ids : List Nat) (l : List CreditOrder) : LetGo ids l (removeOrders ids l) where
  sublist := List.filter_sublist.map _
  others := fun o ho => by simp [mem_removeOrders, ho]
  named := fun o' ho' hid => absurd hid (mem_removeOrders.mp ho').2

theorem mem_returnOrders {ids : List Nat} {l : List CreditOrder} {o' : CreditOrder} :
    o' ∈ returnOrders ids l ↔
      ∃ o ∈ l, (if o.id ∈ ids then { o with state := .pending } else o) = o' := by
  simp [returnOrders]

theorem letGo_returnOrders (ids : List Nat) (l : List CreditOrder) : LetGo ids l (returnOrders ids l) where
  sublist := by rw [ids_returnOrders]
  others := fun o ho => by
    rw [mem_returnOrders]
    refine ⟨?_, fun hmem => ⟨o, hmem, if_neg ho⟩⟩
    rintro ⟨x, hx, rfl⟩
    split at ho
    · contradiction
    · rwa [if_neg ‹_›]
  named := fun o' ho' hid => by
    obtain ⟨o, ho, rfl⟩ := mem_returnOrders.mp ho'
    split at hid
    · rw [if_pos ‹_›]
      exact ⟨rfl, o, ho, rfl⟩
    · contradiction

/-- The orders let go are the ended sale's alone: two sales naming one order would share its number. -/
theorem SaleEngine.Rides.sale_ends {e e' : SaleEngine} {d : SaleData} (h : e.Rides)
    (hf : e.inFlight.Perm (d :: e'.inFlight)) (hc : LetGo d.riding e.credits e'.credits) : e'.Rides := by
  have hn := (hf.map (·.sale)).nodup_iff.mp h.numbers
  rw [List.map_cons, List.nodup_cons] at hn
  obtain ⟨hfresh, hrest⟩ := hn
  have hd : d ∈ e.inFlight := hf.mem_iff.mpr List.mem_cons_self
  have hin : ∀ x ∈ e'.inFlight, x ∈ e.inFlight := fun x hx => hf.mem_iff.mpr (List.mem_cons_of_mem d hx)
  refine ⟨⟨hc.sublist.nodup h.orders.unique, ?named, ?riding, fun x hx => h.orders.few x (hin x hx),
    ?amounts, fun x hx => h.orders.total x (hin x hx), ?size⟩, hrest⟩
  case named =>
    intro x hx id hid
    obtain ⟨o, ho, rfl, hstate⟩ := h.orders.named x (hin x hx) id hid
    refine ⟨o, (hc.others o fun hod => hfresh ?_).mpr ho, rfl, hstate⟩
    have hsale : x.sale = d.sale := by
      simpa [hstate] using h.orders.state_of_named ho hd hod
    exact hsale ▸ List.mem_map_of_mem hx
  case riding =>
    intro o ho n hn
    have hod : o.id ∉ d.riding := fun hod => by simp [(hc.named o ho hod).1] at hn
    obtain ⟨x, hx, hxn, hxo⟩ := h.orders.riding o ((hc.others o hod).mp ho) n hn
    rcases List.mem_cons.mp (hf.mem_iff.mp hx) with rfl | hx'
    · contradiction
    · exact ⟨x, hx', hxn, hxo⟩
  case amounts =>
    intro o ho
    by_cases hod : o.id ∈ d.riding
    · obtain ⟨-, x, hx, hamount⟩ := hc.named o ho hod
      exact hamount ▸ h.orders.amounts x hx
    · exact h.orders.amounts o ((hc.others o hod).mp ho)
  case size => simpa using hc.sublist.length_le.trans (by simpa using h.orders.size)

/-! ### A sale in flight is opened (06 R110) -/

theorem mem_rideOrders {ids : List Nat} {n : Nat} {l : List CreditOrder} {o' : CreditOrder} :
    o' ∈ rideOrders ids n l ↔
      ∃ o ∈ l, (if o.id ∈ ids then { o with state := .riding n } else o) = o' := by
  simp [rideOrders]

/-- The orders set to RIDING were PENDING, so no other sale in flight names them. -/
theorem SaleEngine.OrdersRide.sale_opens {e e' : SaleEngine} {d : SaleData} (h : e.OrdersRide)
    (hf : e'.inFlight.Perm (d :: e.inFlight)) (hc : e'.credits = rideOrders d.riding d.sale e.credits)
    (hpending : ∀ id ∈ d.riding, ∃ o ∈ e.credits, o.id = id ∧ o.state = .pending)
    (hfew : d.riding.length ≤ Config.ridingLimit)
    (htotal : 0 ≤ d.figures.k ∧ d.figures.k ≤ 400000) : e'.OrdersRide := by
  have split_mem : ∀ x ∈ e'.inFlight, x = d ∨ x ∈ e.inFlight := fun x hx =>
    List.mem_cons.mp (hf.mem_iff.mp hx)
  refine ⟨by rw [hc, ids_rideOrders]; exact h.unique, ?named, ?riding, ?few, ?amounts, ?total,
    by simpa [hc, rideOrders] using h.size⟩
  case named =>
    intro x hx id hid
    rw [hc]
    rcases split_mem x hx with rfl | hx
    · obtain ⟨o, ho, rfl, -⟩ := hpending id hid
      exact ⟨{ o with state := .riding x.sale }, mem_rideOrders.mpr ⟨o, ho, if_pos hid⟩, rfl, rfl⟩
    · obtain ⟨o, ho, rfl, hstate⟩ := h.named x hx id hid
      have hod : o.id ∉ d.riding := fun hod => by
        obtain ⟨y, hy, hyid, hyp⟩ := hpending o.id hod
        rw [h.order_unique hy ho hyid, hstate] at hyp
        contradiction
      exact ⟨o, mem_rideOrders.mpr ⟨o, ho, if_neg hod⟩, rfl, hstate⟩
  case riding =>
    intro o' ho' n hn
    obtain ⟨o, ho, rfl⟩ := mem_rideOrders.mp (hc ▸ ho')
    by_cases hod : o.id ∈ d.riding
    · rw [if_pos hod] at hn ⊢
      exact ⟨d, hf.mem_iff.mpr List.mem_cons_self, by simpa using hn, hod⟩
    · rw [if_neg hod] at hn ⊢
      obtain ⟨x, hx, hxn, hxo⟩ := h.riding o ho n hn
      exact ⟨x, hf.mem_iff.mpr (List.mem_cons_of_mem d hx), hxn, hxo⟩
  case few =>
    intro x hx
    rcases split_mem x hx with rfl | hx
    · exact hfew
    · exact h.few x hx
  case amounts =>
    intro o' ho'
    obtain ⟨o, ho, rfl⟩ := mem_rideOrders.mp (hc ▸ ho')
    split <;> exact h.amounts o ho
  case total =>
    intro x hx
    rcases split_mem x hx with rfl | hx
    · exact htotal
    · exact h.total x hx

/-! ### Orders that join or leave while PENDING (06 R107, R108) -/

theorem SaleEngine.OrdersRide.order_joins {e e' : SaleEngine} {o : CreditOrder} (h : e.OrdersRide)
    (hf : e'.inFlight = e.inFlight) (hc : e'.credits = e.credits ++ [o]) (hstate : o.state = .pending)
    (hid : ∀ x ∈ e.credits, x.id ≠ o.id) (hamount : 1 ≤ o.amount ∧ o.amount ≤ 100000)
    (hsize : e.credits.length < 1024) : e'.OrdersRide where
  unique := by
    rw [hc, List.map_append, List.map_singleton, List.nodup_append]
    exact ⟨h.unique, by simp, by simpa using hid⟩
  named := fun d hd id hin => by
    obtain ⟨x, hx, hfound⟩ := h.named d (hf ▸ hd) id hin
    exact ⟨x, hc ▸ List.mem_append_left _ hx, hfound⟩
  riding := fun x hx n hn => by
    rcases List.mem_append.mp (hc ▸ hx) with hx | hx
    · exact hf ▸ h.riding x hx n hn
    · obtain rfl : x = o := by simpa using hx
      simp [hstate] at hn
  few := hf ▸ h.few
  amounts := fun x hx => by
    rcases List.mem_append.mp (hc ▸ hx) with hx | hx
    · exact h.amounts x hx
    · obtain rfl : x = o := by simpa using hx
      exact hamount
  total := hf ▸ h.total
  size := by simpa [hc, Config.creditListSize] using hsize

theorem SaleEngine.OrdersRide.pending_leaves {e e' : SaleEngine} {o : CreditOrder} (h : e.OrdersRide)
    (hf : e'.inFlight = e.inFlight) (hc : e'.credits = removeOrders [o.id] e.credits)
    (ho : o ∈ e.credits) (hstate : o.state = .pending) : e'.OrdersRide := by
  have hsub : e'.credits.Sublist e.credits := hc ▸ List.filter_sublist
  refine ⟨(hsub.map _).nodup h.unique, ?named, ?riding, hf ▸ h.few,
    fun x hx => h.amounts x (hsub.subset hx), hf ▸ h.total, hsub.length_le.trans h.size⟩
  case named =>
    intro d hd id hin
    obtain ⟨x, hx, rfl, hxs⟩ := h.named d (hf ▸ hd) id hin
    have hne : x.id ≠ o.id := fun heq => by
      rw [h.order_unique hx ho heq, hstate] at hxs
      contradiction
    exact ⟨x, hc ▸ mem_removeOrders.mpr ⟨hx, by simpa using hne⟩, rfl, hxs⟩
  case riding =>
    intro x hx n hn
    exact hf ▸ h.riding x (hsub.subset hx) n hn

/-! ### A context or a doubt entry leaves its table -/

theorem perm_cons_filter_ne {α : Type} {f : α → Nat} {l : List α} {x : α} (hx : x ∈ l)
    (hn : (l.map f).Nodup) : l.Perm (x :: l.filter fun y => f y ≠ f x) := by
  obtain ⟨a, b, rfl⟩ := List.append_of_mem hx
  have hn' := (List.perm_middle.map f).nodup_iff.mp hn
  rw [List.map_cons, List.nodup_cons] at hn'
  have keeps : (a ++ b).filter (fun y => f y ≠ f x) = a ++ b :=
    List.filter_eq_self.mpr fun y hy =>
      decide_eq_true fun heq : f y = f x => hn'.1 (heq ▸ List.mem_map_of_mem hy)
  calc (a ++ x :: b).Perm (x :: (a ++ b)) := List.perm_middle
    _ = x :: (a ++ x :: b).filter (fun y => f y ≠ f x) := by
      rw [← keeps, List.filter_append, List.filter_append, List.filter_cons_of_neg (by simp)]

section Engine

variable {s : State}

theorem numbers_contexts (h : s.sale.Rides) : (s.sale.contexts.map (·.data.sale)).Nodup := by
  have hn := h.numbers
  rw [← heldNumbers_eq] at hn
  exact hn.of_append_left

theorem numbers_doubts (h : s.sale.Rides) : (s.sale.doubts.map (·.data.sale)).Nodup := by
  have hn := h.numbers
  rw [← heldNumbers_eq] at hn
  exact hn.of_append_right

theorem inFlight_removeContext {c : Context} (h : s.sale.Rides) (hc : c ∈ s.sale.contexts) :
    s.sale.inFlight.Perm (c.data :: (s.removeContext c.data.sale).sale.inFlight) :=
  ((perm_cons_filter_ne hc (numbers_contexts h)).map (·.data)).append_right _

theorem inFlight_removeDoubt {e : DoubtEntry} (h : s.sale.Rides) (he : e ∈ s.sale.doubts) :
    s.sale.inFlight.Perm (e.data :: (s.removeDoubt e.data.sale).sale.inFlight) :=
  (((perm_cons_filter_ne he (numbers_doubts h)).map (·.data)).append_left _).trans List.perm_middle

/-! ### The ends of a sale in flight (04 R78, R81, 05 R92 to R94) -/

theorem deliverOrders_sale (s : State) (d : SaleData) (how : SaleEnd) (n : Nat) :
    (s.deliverOrders d how n).sale = { s.sale with credits := removeOrders d.riding s.sale.credits } := by
  unfold State.deliverOrders
  split <;> rfl

theorem commit_ledger (s : State) (c : Context) : (s.commit c).sale.ledger =
    (removeOrders c.data.riding s.sale.credits, (s.removeContext c.data.sale).sale.inFlight) := by
  simp [State.commit, SaleEngine.ledger, SaleEngine.inFlight, State.removeContext, deliverOrders_sale]

theorem voidContext_ledger (s : State) (c : Context) : (s.voidContext c).sale.ledger =
    (returnOrders c.data.riding s.sale.credits, (s.removeContext c.data.sale).sale.inFlight) := by
  unfold State.voidContext
  split <;> simp [SaleEngine.ledger, SaleEngine.inFlight, State.removeContext, State.mapCredits]

theorem voidContext_contexts (s : State) (c : Context) : (s.voidContext c).sale.contexts =
    s.sale.contexts.filter fun x => x.data.sale ≠ c.data.sale := by
  unfold State.voidContext
  split <;> simp [State.removeContext]

theorem endHappened_ledger (s : State) (e : DoubtEntry) (way : DoubtWay) :
    (s.endHappened e way).sale.ledger =
      (removeOrders e.data.riding s.sale.credits, (s.removeDoubt e.data.sale).sale.inFlight) := by
  simp [State.endHappened, State.closeEntry, SaleEngine.ledger, SaleEngine.inFlight, State.removeDoubt,
    deliverOrders_sale]

theorem endNotHappened_ledger (s : State) (e : DoubtEntry) (way : DoubtWay) :
    (s.endNotHappened e way).sale.ledger =
      (returnOrders e.data.riding s.sale.credits, (s.removeDoubt e.data.sale).sale.inFlight) := by
  simp [State.endNotHappened, State.closeEntry, SaleEngine.ledger, SaleEngine.inFlight,
    State.removeDoubt, State.mapCredits]

theorem endUnresolved_ledger (s : State) (e : DoubtEntry) (way : DoubtWay) :
    (s.endUnresolved e way).sale.ledger =
      (removeOrders e.data.riding s.sale.credits, (s.removeDoubt e.data.sale).sale.inFlight) := by
  simp [State.endUnresolved, State.closeEntry, SaleEngine.ledger, SaleEngine.inFlight,
    State.removeDoubt, State.mapCredits]

theorem rides_of_ends {t : State} {d : SaleData} {orders : List CreditOrder} {flight : List SaleData}
    (h : s.sale.Rides) (hl : t.sale.ledger = (orders, flight)) (hf : s.sale.inFlight.Perm (d :: flight))
    (hc : LetGo d.riding s.sale.credits orders) : t.sale.Rides := by
  obtain ⟨rfl, rfl⟩ := Prod.mk.inj hl
  exact h.sale_ends hf hc

theorem commit_rides {c : Context} (h : s.sale.Rides) (hc : c ∈ s.sale.contexts) :
    (s.commit c).sale.Rides :=
  rides_of_ends h (commit_ledger s c) (inFlight_removeContext h hc) (letGo_removeOrders _ _)

theorem voidContext_rides {c : Context} (h : s.sale.Rides) (hc : c ∈ s.sale.contexts) :
    (s.voidContext c).sale.Rides :=
  rides_of_ends h (voidContext_ledger s c) (inFlight_removeContext h hc) (letGo_returnOrders _ _)

variable {e : DoubtEntry}

theorem endHappened_rides (way : DoubtWay) (h : s.sale.Rides) (he : e ∈ s.sale.doubts) :
    (s.endHappened e way).sale.Rides :=
  rides_of_ends h (endHappened_ledger s e way) (inFlight_removeDoubt h he) (letGo_removeOrders _ _)

theorem endNotHappened_rides (way : DoubtWay) (h : s.sale.Rides) (he : e ∈ s.sale.doubts) :
    (s.endNotHappened e way).sale.Rides :=
  rides_of_ends h (endNotHappened_ledger s e way) (inFlight_removeDoubt h he) (letGo_returnOrders _ _)

theorem endUnresolved_rides (way : DoubtWay) (h : s.sale.Rides) (he : e ∈ s.sale.doubts) :
    (s.endUnresolved e way).sale.Rides :=
  rides_of_ends h (endUnresolved_ledger s e way) (inFlight_removeDoubt h he) (letGo_removeOrders _ _)

/-! ### The move to the Doubt List (04 R82, 05 R90) -/

theorem pushOut_contexts (s : State) : s.pushOut.sale.contexts = s.sale.contexts := by
  unfold State.pushOut
  split
  · split
    · simp [State.endUnresolved, State.closeEntry]
    · rfl
  · rfl

theorem pushOut_rides (h : s.sale.Rides) : s.pushOut.sale.Rides := by
  unfold State.pushOut
  split
  next e rest hdoubts =>
    split
    · exact endUnresolved_rides .pushOut h (hdoubts ▸ List.mem_cons_self)
    · exact h
  · exact h

theorem moveToDoubt_contexts (s : State) (c : Context) (cause : DoubtCause) :
    (s.moveToDoubt c cause).sale.contexts =
      s.sale.contexts.filter fun x => x.data.sale ≠ c.data.sale := by
  simp [State.moveToDoubt, State.removeContext, pushOut_contexts]

theorem moveToDoubt_credits (s : State) (c : Context) (cause : DoubtCause) :
    (s.moveToDoubt c cause).sale.credits = s.pushOut.sale.credits := by
  simp [State.moveToDoubt]

theorem moveToDoubt_inFlight (s : State) (c : Context) (cause : DoubtCause) :
    (s.moveToDoubt c cause).sale.inFlight =
      (s.pushOut.removeContext c.data.sale).sale.inFlight ++ [c.data] := by
  simp [State.moveToDoubt, SaleEngine.inFlight, State.removeContext, State.addDoubt]

/-- The move takes the sale with its orders from one table to the other. -/
theorem moveToDoubt_rides {c : Context} (cause : DoubtCause) (h : s.sale.Rides)
    (hc : c ∈ s.sale.contexts) : (s.moveToDoubt c cause).sale.Rides := by
  have hp := pushOut_rides h
  have hc' : c ∈ s.pushOut.sale.contexts := (pushOut_contexts s).symm ▸ hc
  refine hp.of_perm (moveToDoubt_credits s c cause) ?_
  rw [moveToDoubt_inFlight]
  exact (List.perm_append_singleton _ _).trans (inFlight_removeContext hp hc').symm

/-! ### The warm start (04 R86) -/

/-- Ends or moves of several contexts, each still in the table when its turn comes. -/
theorem foldl_rides {f : State → Context → State}
    (hrides : ∀ s c, s.sale.Rides → c ∈ s.sale.contexts → (f s c).sale.Rides)
    (hcontexts : ∀ s c, (f s c).sale.contexts =
      s.sale.contexts.filter fun x => x.data.sale ≠ c.data.sale)
    (cs : List Context) {s : State} (h : s.sale.Rides) (hmem : ∀ c ∈ cs, c ∈ s.sale.contexts)
    (hn : (cs.map (·.data.sale)).Nodup) :
    (cs.foldl f s).sale.Rides ∧
      ∀ x ∈ s.sale.contexts, x.data.sale ∉ cs.map (·.data.sale) → x ∈ (cs.foldl f s).sale.contexts := by
  induction cs generalizing s with
  | nil => exact ⟨h, fun x hx _ => hx⟩
  | cons c cs ih =>
    rw [List.map_cons, List.nodup_cons] at hn
    have stays : ∀ x ∈ s.sale.contexts, x.data.sale ≠ c.data.sale → x ∈ (f s c).sale.contexts :=
      fun x hx hne => by simpa [hcontexts] using ⟨hx, hne⟩
    obtain ⟨hrest, hleft⟩ := ih (hrides s c h (hmem c List.mem_cons_self))
      (fun x hx => stays x (hmem x (List.mem_cons_of_mem c hx)) fun heq =>
        hn.1 (heq ▸ List.mem_map_of_mem hx)) hn.2
    refine ⟨hrest, fun x hx hxs => ?_⟩
    rw [List.map_cons, List.mem_cons, not_or] at hxs
    exact hleft x (stays x hx hxs.1) hxs.2

theorem warmEngine_rides (h : s.sale.Rides) : s.warmEngine.sale.Rides := by
  have hn := numbers_contexts h
  have sub : ∀ p : Context → Bool, ((s.sale.contexts.filter p).map (·.data.sale)).Nodup := fun p =>
    (List.filter_sublist.map _).nodup hn
  obtain ⟨hvoid, hleft⟩ := foldl_rides (fun _ _ => voidContext_rides) voidContext_contexts s.sale.unsent
    (s := { s with sale := { s.sale with queue := [] } }) (h.of_ledger rfl)
    (fun c hc => (List.mem_filter.mp hc).1) (sub _)
  refine (foldl_rides (fun _ _ => moveToDoubt_rides .warmStart)
    (fun s c => moveToDoubt_contexts s c .warmStart) s.sale.ordered hvoid (fun c hc => ?_) (sub _)).1
  obtain ⟨hcs, hstate⟩ := List.mem_filter.mp hc
  refine hleft c hcs fun hnum => ?_
  obtain ⟨x, hx, hxnum⟩ := List.mem_map.mp hnum
  obtain ⟨hxs, hxstate⟩ := List.mem_filter.mp hx
  obtain rfl : x = c := List.inj_on_of_nodup_map hn hxs hcs hxnum
  exact of_decide_eq_true hstate (of_decide_eq_true hxstate)

end Engine

/-! ### The orders that pricing chooses (02 R28 to R30) -/

theorem chooseOrders_sublist (b c : Int) (n : Nat) (run : Int) (os : List CreditOrder) :
    (chooseOrders b c n run os).Sublist os := by
  induction os generalizing n run with
  | nil => cases n <;> simp [chooseOrders]
  | cons o os ih =>
    cases n with
    | zero => simp [chooseOrders]
    | succ n =>
      unfold chooseOrders
      split
      · exact (ih n _).cons_cons o
      · exact List.nil_sublist _

theorem totalOf_range (os : List CreditOrder) (h : ∀ o ∈ os, 1 ≤ o.amount ∧ o.amount ≤ 100000) :
    0 ≤ totalOf os ∧ totalOf os ≤ 100000 * os.length := by
  unfold totalOf
  induction os with
  | nil => simp
  | cons o os ih =>
    obtain ⟨ho, hos⟩ := List.forall_mem_cons.mp h
    have hrest := ih hos
    simp only [List.map_cons, List.sum_cons, List.length_cons]
    omega

/-- What every priced sale keeps to: at most 4 of the orders offered, and K their total. -/
structure Priced.Chosen (p : Priced) (os : List CreditOrder) : Prop where
  offered : p.riding.Sublist os
  few : p.riding.length ≤ Config.ridingLimit
  total : p.figures.k = totalOf p.riding

theorem settle_chosen {i : PriceInput} {f : GroupFigures} {kind : SaleKind} {g s a c : Nat} {b c' : Int}
    {p : Priced}
    (h : settle i f kind g s a c (chooseOrders b c' Config.ridingLimit 0 i.orders) = .priced p) :
    p.Chosen i.orders := by
  unfold settle at h
  dsimp only at h
  split at h
  · contradiction
  · obtain rfl := Pricing.priced.inj h
    exact ⟨chooseOrders_sublist .., chooseOrders_length .., rfl⟩

theorem priceSale_chosen {now : Consulted} {basket : List BasketLine} {i : PriceInput} {p : Priced}
    (h : priceSale now basket i = .priced p) : p.Chosen i.orders := by
  unfold priceSale at h
  dsimp only at h
  split at h
  · split at h
    · contradiction
    · exact settle_chosen h
  · split at h
    · contradiction
    · split at h
      · contradiction
      · exact settle_chosen h

theorem reversalPriced_chosen (slot : PurseSlot) (l : LastSale) (os : List CreditOrder) :
    (reversalPriced slot l).Chosen os := ⟨List.nil_sublist os, Nat.zero_le _, rfl⟩

theorem step9_chosen {s : State} {now : Consulted} {m : MetCard} {p : Presented} {sale : Priced}
    {reversed : Option Nat} (h : s.step9 now m p = (.priced sale, reversed)) :
    sale.Chosen (pendingOrders s.sale.credits m.card) := by
  unfold State.step9 at h
  split at h
  · exact priceSale_chosen (congrArg Prod.fst h)
  · split at h
    · simp at h
    · obtain ⟨rfl, -⟩ : reversalPriced .. = sale ∧ _ := by simpa using h
      exact reversalPriced_chosen ..

/-! ### The check order (04 R65) -/

section CheckOrder

variable {s : State}

theorem insertContext_perm (c : Context) (l : List Context) : (insertContext c l).Perm (c :: l) := by
  induction l with
  | nil => exact .refl _
  | cons x xs ih =>
    unfold insertContext
    split
    · exact .refl _
    · exact (ih.cons x).trans (.swap c x xs)

/-- Step 10 names PENDING orders of the card, at most 4, whose total is K. -/
theorem step10_ordersRide {st : StationId} {n : Byte} {now : Consulted} {m : MetCard} {sale : Priced}
    {reversed : Option Nat} (h : s.sale.OrdersRide)
    (hsale : sale.Chosen (pendingOrders s.sale.credits m.card)) :
    (s.step10 st n now m sale reversed).sale.OrdersRide := by
  have hmem : ∀ o ∈ sale.riding, o ∈ s.sale.credits ∧ o.state = .pending := fun o ho => by
    have := hsale.offered.subset ho
    simp only [pendingOrders, List.mem_filter, decide_eq_true_eq] at this
    exact ⟨this.1, this.2.2⟩
  obtain ⟨hlow, hhigh⟩ := totalOf_range sale.riding fun o ho => h.amounts o (hmem o ho).1
  have hfew : sale.riding.length ≤ 4 := hsale.few
  refine h.sale_opens
    (d := (newContext st s.sale.assignedNumber s.hall.hallId now m sale reversed).data) ?flight ?credits
    ?pending (by simpa [newContext] using hsale.few) ?total
  case flight =>
    simpa [State.step10, SaleEngine.inFlight, State.addContext] using
      ((insertContext_perm _ _).map (·.data)).append_right _
  case credits => simp [State.step10, State.mapCredits]
  case pending =>
    intro id hid
    obtain ⟨o, ho, rfl⟩ := List.mem_map.mp hid
    exact ⟨o, (hmem o ho).1, rfl, (hmem o ho).2⟩
  case total =>
    show 0 ≤ sale.figures.k ∧ sale.figures.k ≤ 400000
    rw [hsale.total]
    omega

theorem priceAndOpen_ordersRide {st : StationId} {n : Byte} {now : Consulted} {m : MetCard}
    {p : Presented} (h : s.sale.OrdersRide) : (s.priceAndOpen st n now m p).sale.OrdersRide := by
  unfold State.priceAndOpen
  split
  · simpa using h
  · split
    · simpa using h
    next hpriced => exact step10_ordersRide h (step9_chosen hpriced)

theorem step7_rides {st : StationId} {card : Nat} {image : CardImage} {q : Seq} (h : s.sale.Rides) :
    (s.step7 st card image q).1.sale.Rides := by
  unfold State.step7
  split
  · exact h
  next e hfound =>
    have he : e ∈ s.sale.doubts := List.mem_of_find?_eq_some hfound
    split
    · exact endHappened_rides _ h he
    · exact endNotHappened_rides _ h he
    · exact endUnresolved_rides _ h he
    · exact h

theorem step6_ledger (s : State) (st : StationId) (card : Nat) (p : PurseSlot) :
    (s.step6 st card p).1.sale.ledger = s.sale.ledger := by
  unfold State.step6
  split
  · rfl
  · dsimp only
    split <;> rfl

theorem pursePath_ordersRide {st : StationId} {n : Byte} {now : Consulted} {m : MetCard}
    {image : CardImage} {p : Presented} (h : s.sale.Rides) :
    (s.pursePath st n now m image p).sale.OrdersRide := by
  have h6 := h.of_ledger (step6_ledger s st m.card m.slot)
  unfold State.pursePath
  split
  next hstep6 =>
    rw [hstep6] at h6
    simpa using h6.orders
  next s6 hstep6 =>
    rw [hstep6] at h6
    have h7 := step7_rides (st := st) (card := m.card) (image := image) (q := m.slot.sequence) h6
    split
    next hstep7 =>
      rw [hstep7] at h7
      simpa using h7.orders
    next hstep7 =>
      rw [hstep7] at h7
      exact priceAndOpen_ordersRide h7.orders

theorem cashPath_sale (s : State) (st : StationId) (n : Byte) (now : Consulted) (card : Nat)
    (kind : CardKind) (group : Nat) (p : Presented) :
    (s.cashPath st n now card kind group p).sale = s.sale := by
  unfold State.cashPath
  split
  · simp
  · split
    · simp
    · split
      · simp
      · split <;> simp

theorem sortCard_ordersRide {st : StationId} {n : Byte} {now : Consulted} {image : CardImage}
    {kind : CardKind} {p : Presented} (h : s.sale.Rides) :
    (s.sortCard st n now image kind p).sale.OrdersRide := by
  unfold State.sortCard
  dsimp only
  split
  · simpa using h.orders
  · simpa using h.orders
  · simpa [cashPath_sale] using h.orders
  · split
    · simpa using h.orders
    · split
      · simpa using h.orders
      · exact pursePath_ordersRide h

theorem present_ordersRide {st : StationId} {n : Byte} {image : CardImage} {p : Presented}
    (h : s.sale.Rides) : (s.present st n image p).sale.OrdersRide := by
  unfold State.present
  split
  · simpa using h.orders
  · split
    · simpa using h.orders
    · split
      · simpa using h.orders
      · exact sortCard_ordersRide h

end CheckOrder

/-! ### Completions (04 R76 to R80) -/

section Completions

variable {s : State} {st : StationId} {n : Nat}

theorem mem_contexts_of_found {c : Context} (h : s.sale.found st n = .context c) :
    c ∈ s.sale.contexts := by
  unfold SaleEngine.found at h
  split at h
  next hat =>
    obtain rfl := Found.context.inj h
    exact List.mem_of_find?_eq_some hat
  · split at h
    · contradiction
    · split at h
      · split at h <;> contradiction
      · contradiction

theorem mem_doubts_of_found {e : DoubtEntry} (h : s.sale.found st n = .doubt e) :
    e ∈ s.sale.doubts := by
  unfold SaleEngine.found at h
  split at h
  · contradiction
  · split at h
    next hat =>
      obtain rfl := Found.doubt.inj h
      exact List.mem_of_find?_eq_some hat
    · split at h
      · split at h <;> contradiction
      · contradiction

theorem done_rides (h : s.sale.Rides) : (s.done st n).1.sale.Rides := by
  unfold State.done
  split
  next hfound =>
    split
    · exact h
    · exact commit_rides h (mem_contexts_of_found hfound)
  next hfound => exact endHappened_rides _ h (mem_doubts_of_found hfound)
  · exact h
  · exact h

theorem torn_rides (h : s.sale.Rides) : (s.torn st n).1.sale.Rides := by
  unfold State.torn
  split
  next hfound =>
    split
    · exact voidContext_rides h (mem_contexts_of_found hfound)
    · exact moveToDoubt_rides _ h (mem_contexts_of_found hfound)
  · exact h
  · exact h
  · exact h

theorem cancelled_rides (h : s.sale.Rides) : (s.cancelled st n).1.sale.Rides := by
  unfold State.cancelled
  split
  next hfound => exact voidContext_rides h (mem_contexts_of_found hfound)
  next hfound => exact endNotHappened_rides _ h (mem_doubts_of_found hfound)
  · exact h
  · exact h

theorem complete_ordersRide {number : Byte} {table : State → State × StationReply} (h : s.sale.Rides)
    (htable : (table s).1.sale.Rides) : (s.complete st number table).sale.OrdersRide := by
  unfold State.complete
  split
  · simpa using h.orders
  · simpa using htable.orders

end Completions

/-! ### Events, and the host's requests of the engine (04 R83, 05 R100, 06 R107, R108) -/

section Requests

variable {s : State}

theorem takeLoss_rides {c : Context} (cause : LossCause) (h : s.sale.Rides) (hc : c ∈ s.sale.contexts) :
    (s.takeLoss c cause).sale.Rides := by
  have hvoid := voidContext_rides h hc
  have hmove := moveToDoubt_rides .stationLost h hc
  unfold State.takeLoss
  split
  · split
    · exact hvoid
    · exact h
  · split
    · exact hvoid
    · exact hmove
  · split
    · exact hvoid
    · exact hmove

theorem creditOrder_ordersRide {h : Handed} {id card amount : Nat} (hs : s.sale.OrdersRide) :
    (s.creditOrder h id card amount).sale.OrdersRide := by
  by_cases ha : amount < 1 ∨ 100000 < amount
  · rw [creditOrder_badAmount ha]
    exact hs
  cases hfind : (placeOrders 1 s.sale.credits).find? (fun p => p.order.id = id) with
  | some p =>
    rw [creditOrder_duplicate ha hfind]
    exact hs
  | none =>
    have hid := absent_of_find_placeOrders hfind
    by_cases hn : s.sale.credits.length < 1024
    · rw [creditOrder_placed ha hid hn]
      have hamount : 1 ≤ amount ∧ amount ≤ 100000 := by omega
      exact hs.order_joins rfl rfl rfl hid hamount hn
    · rw [creditOrder_full ha hid (by omega)]
      exact hs

theorem cancelCredit_ordersRide {h : Handed} {id : Nat} (hs : s.sale.OrdersRide) :
    (s.cancelCredit h id).sale.OrdersRide := by
  cases hfind : (placeOrders 1 s.sale.credits).find? (fun p => p.order.id = id) with
  | none =>
    rw [cancelCredit_absent (absent_of_find_placeOrders hfind)]
    exact hs
  | some p =>
    obtain ⟨hp, rfl⟩ := mem_of_find_placeOrders hfind
    cases hstate : p.order.state with
    | riding n =>
      rw [cancelCredit_riding hfind hstate]
      exact hs
    | pending =>
      rw [cancelCredit_pending hfind hstate]
      exact hs.pending_leaves rfl rfl hp hstate

theorem dismiss_rides {h : Handed} {card n : Nat} (hs : s.sale.Rides) :
    (s.dismiss h card n).sale.Rides := by
  unfold State.dismiss
  split
  · exact hs
  · split
    · exact hs
    next hfound => exact endUnresolved_rides .dismiss hs (List.mem_of_find?_eq_some hfound)

end Requests

/-! ### The two starts (12 R196, R197) -/

theorem warmStart_rides {s : State} (cause : WarmCause) (h : s.sale.Rides) :
    (s.warmStart cause).sale.Rides := by
  simp only [State.warmStart, State.recompute_sale, State.warmReport, State.queueReport_sale]
  exact warmEngine_rides h

theorem initial_ordersRide : SaleEngine.initial.OrdersRide := by
  constructor <;> simp [SaleEngine.initial, SaleEngine.inFlight]

/-! ### What leaves the orders and the sales in flight unchanged -/

section Frame

variable (s : State)

@[simp] theorem handLoss_ledger (l : Loss) : (s.handLoss l).sale.ledger = s.sale.ledger := rfl

@[simp] theorem enqueue_ledger (w : Work) : (s.enqueue w).sale.ledger = s.sale.ledger := rfl

@[simp] theorem handDelivery_ledger (st : StationId) (n : Option Nat) :
    (s.handDelivery st n).sale.ledger = s.sale.ledger := by cases n <;> rfl

theorem Context.second_data (c : Context) : c.second.data = c.data := by
  unfold Context.second
  split <;> rfl

theorem Context.delivered_data (timer : Nat) (c : Context) : (c.delivered timer).data = c.data := by
  unfold Context.delivered
  split <;> rfl

@[simp] theorem runTimers_ledger : s.runTimers.sale.ledger = s.sale.ledger := by
  unfold State.runTimers
  split
  · simp [SaleEngine.ledger, SaleEngine.inFlight, Function.comp_def, Context.second_data]
  · rfl

/-! The office line -/

@[simp] theorem hand_ledger (o : Owner) (h : Handed) : (s.hand o h).sale.ledger = s.sale.ledger := by
  cases o with
  | lane l => simp [State.hand]
  | _ => rfl

@[simp] theorem takeRequest_ledger (f : TakenFrame) (reading : Option HostRequest) :
    (s.takeRequest f reading).sale.ledger = s.sale.ledger := by
  unfold State.takeRequest
  split <;> simp

@[simp] theorem sent_ledger (x : Sending) : (s.sent x).sale.ledger = s.sale.ledger := by
  unfold State.sent
  split <;> rfl

/-! The lanes -/

variable (st : StationId)

@[simp] theorem sendTo_ledger (l : Lane) (a : Fin 8) (k : PollKind) :
    (s.sendTo l a k).sale.ledger = s.sale.ledger := by simp [State.sendTo]

@[simp] theorem sendNext_ledger (l : Lane) : (s.sendNext l).sale.ledger = s.sale.ledger := by
  unfold State.sendNext
  split <;> simp

@[simp] theorem admitRequest_ledger (n : Byte) (q : StationRequest) :
    (s.admitRequest st n q).sale.ledger = s.sale.ledger := by
  simp only [State.admitRequest]
  split_ifs <;> simp

@[simp] theorem leaveAnswer_ledger : (s.leaveAnswer st).sale.ledger = s.sale.ledger := by
  simp only [State.leaveAnswer]
  split <;> simp

@[simp] theorem stationGone_ledger (cause : GoneCause) :
    (s.stationGone st cause).sale.ledger = s.sale.ledger := by simp [State.stationGone]

@[simp] theorem takeAnswer_ledger (k : PollKind) (a : Answer) :
    (s.takeAnswer st k a).sale.ledger = s.sale.ledger := by
  simp only [State.takeAnswer]
  split
  · split <;> simp [State.join]
  · split <;> simp
  · split <;> simp
  · split <;> simp
  · split <;> simp
  · rfl
  · rfl

@[simp] theorem readValid_ledger (k : PollKind) (a : Answer) :
    (s.readValid st k a).sale.ledger = s.sale.ledger := by simp [State.readValid]

@[simp] theorem stateChange_sale (former : StationState) (r : StationRecord) (cause : StationCause) :
    (s.stateChange st former r cause).sale = s.sale := by simp [State.stateChange]

@[simp] theorem lossIfHolding_ledger (cause : LossCause) :
    (s.lossIfHolding st cause).sale.ledger = s.sale.ledger := by
  unfold State.lossIfHolding
  split <;> simp

@[simp] theorem failServed_ledger (k : FailureKind) :
    (s.failServed st k).sale.ledger = s.sale.ledger := by
  have drop_ledger : ∀ r, (s.drop st r).sale.ledger = s.sale.ledger := fun r => by
    unfold State.drop
    split <;> simp
  simp only [State.failServed]
  split_ifs <;> simp [drop_ledger]

@[simp] theorem passServed_sale (waits : Nat) : (s.passServed st waits).sale = s.sale := by
  simp only [State.passServed]
  split <;> simp

@[simp] theorem scoreValid_ledger (a : Answer) : (s.scoreValid st a).sale.ledger = s.sale.ledger := by
  unfold State.scoreValid
  split_ifs <;> simp

@[simp] theorem cleanCall_ledger : (s.cleanCall st).sale.ledger = s.sale.ledger := by
  simp only [State.cleanCall]
  split
  · split <;> simp
  · simp

@[simp] theorem silentCall_ledger : (s.silentCall st).sale.ledger = s.sale.ledger := by
  simp only [State.silentCall]
  split <;> simp

@[simp] theorem endExchange_ledger (l : Lane) (x : Exchange) (e : ExchangeEnd) :
    (s.endExchange l x e).sale.ledger = s.sale.ledger := by
  have cleared : (s.clearExchange l x).sale = s.sale := by simp [State.clearExchange]
  simp only [State.endExchange]
  split <;> simp [cleared]

@[simp] theorem laneTaken_sale (l : Lane) (rest : List Handed) : (s.laneTaken l rest).sale = s.sale := by
  simp [State.laneTaken]

@[simp] theorem laneSet_ledger (h : Handed) (l : Lane) (m : LaneMode) :
    (s.laneSet h l m).sale.ledger = s.sale.ledger := by
  have off : (s.laneEntersOff l).sale.ledger = s.sale.ledger := by
    simp [State.laneEntersOff, SaleEngine.ledger, SaleEngine.inFlight]
  simp only [State.laneSet]
  split <;> simp [off]

/-! The other blocks -/

@[simp] theorem swap_sale (cause : SwapCause) : (s.swap cause).sale = s.sale := by
  unfold State.swap
  split <;> rfl

@[simp] theorem setClock_sale (h : Handed) (day minute : Nat) :
    (s.setClock h day minute).sale = s.sale := by
  simp only [State.setClock]
  split_ifs <;> simp

@[simp] theorem setPeriods_sale (h : Handed) (entries : List AskedPeriod) :
    (s.setPeriods h entries).sale = s.sale := by
  simp only [State.setPeriods]
  split <;> simp

@[simp] theorem decoderTakes_sale (h : Handed) (rest : List Handed)
    (f : Decoder → Decoder × HostReply) : (s.decoderTakes h rest f).sale = s.sale := rfl

@[simp] theorem tariffTakes_sale (h : Handed) (rest : List Handed)
    (f : TariffUnit → TariffUnit × HostReply) : (s.tariffTakes h rest f).sale = s.sale := rfl

@[simp] theorem setHall_sale (h : Handed) (id : Nat) : (s.setHall h id).sale = s.sale := by
  unfold State.setHall
  split_ifs <;> rfl

@[simp] theorem openHall_sale (h : Handed) : (s.openHall h).sale = s.sale := by
  simp only [State.openHall]
  split <;> rfl

@[simp] theorem suspendHall_sale (h : Handed) : (s.suspendHall h).sale = s.sale := by
  unfold State.suspendHall
  split <;> rfl

@[simp] theorem resumeHall_sale (h : Handed) : (s.resumeHall h).sale = s.sale := by
  unfold State.resumeHall
  split <;> rfl

@[simp] theorem clearAll_sale (h : Handed) (id : Option Nat) : (s.clearAll h id).sale = s.sale := by
  unfold State.clearAll
  split_ifs <;> rfl

end Frame

/-! ### The commands -/

/-- The commands that may place, free or take out an order, or open, end or move a sale in flight. -/
def movesOrders : Instr → Bool
  | .creditOrder | .cancelCredit | .doubtDismiss | .saleOpen | .reverse | .saleDone | .saleTorn
  | .saleCancel | .writeTimerExpiry _ | .lossEvent | .warmStart | .coldStart => true
  | _ => false

section Commands

variable {s t u : State}

theorem whenRunning_ledger (h : whenRunning s u = .next t) (hu : u.sale.ledger = s.sale.ledger) :
    t.sale.ledger = s.sale.ledger := by
  rcases whenRunning_next h with ⟨-, rfl⟩ | ⟨-, rfl⟩
  · exact hu
  · rfl

theorem whenStarted_ledger (h : whenStarted s u = .next t) (hu : u.sale.ledger = s.sale.ledger) :
    t.sale.ledger = s.sale.ledger := by
  rcases whenStarted_next h with ⟨-, rfl⟩ | ⟨-, rfl⟩
  · exact hu
  · rfl

theorem whenRunning_ordersRide (h : whenRunning s u = .next t) (hs : s.sale.OrdersRide)
    (hu : u.sale.OrdersRide) : t.sale.OrdersRide := by
  rcases whenRunning_next h with ⟨-, rfl⟩ | ⟨-, rfl⟩
  · exact hu
  · exact hs

theorem ledger_of_next (h : (.next u : Result) = .next t) (hu : u.sale.ledger = s.sale.ledger) :
    t.sale.ledger = s.sale.ledger := by
  obtain rfl := Host.Outcome.next.inj h
  exact hu

/-- Every other command leaves the orders and the sales in flight as they are. -/
theorem exec_ledger {i : Instr} (hi : movesOrders i = false) (h : exec i s = .next t) :
    t.sale.ledger = s.sale.ledger := by
  cases i with
  | creditOrder | cancelCredit | doubtDismiss | saleOpen | reverse | saleDone | saleTorn | saleCancel
  | writeTimerExpiry | lossEvent | warmStart | coldStart => nomatch hi
  | officeFrameReceived =>
    refine whenRunning_ledger h ?_
    dsimp only
    split <;> simp
  | frameSendStart | frameSentInFull | officeStartMarker =>
    refine whenRunning_ledger h ?_
    split <;> simp
  | officeByteGapTimeout => exact whenRunning_ledger h rfl
  | frameLengthOverLimit =>
    refine whenRunning_ledger h ?_
    split
    · split <;> rfl
    · rfl
  | queryCredits | queryCard | doubtList | saleList | writeTimerSet =>
    refine whenRunning_ledger h ?_
    split <;> rfl
  | deliveryEvent =>
    refine whenRunning_ledger h ?_
    split
    · rfl
    next d rest _ =>
      have hdata : ∀ c : Context,
          (if d.names c then c.delivered s.sale.timerSetting else c).data = c.data := fun c => by
        split
        · exact c.delivered_data _
        · rfl
      simp [SaleEngine.ledger, SaleEngine.inFlight, Function.comp_def, hdata]
  | stopAdd | stopRemove | stopClear | stopList | rangeSet | rangeClear | rangeDefault | rangeList
  | classQuery | tariffBegin | tariffItems | tariffGroup | tariffEnd | tariffList | setClock
  | setPeriods | clockRead | journalFetch | journalRelease | totalsRead | dayClose | setHall | openHall
  | suspend | resume | status | softReset | clearAll =>
    refine whenRunning_ledger h ?_
    split <;> simp
  | tariffSwapNow =>
    refine whenRunning_ledger h ?_
    split
    · dsimp only
      split <;> simp
    · rfl
  | tariffBoundarySwap | periodCounterCapture =>
    refine whenStarted_ledger h ?_
    split <;> simp
  | laneSet | clearStationErrors | clearLineStuck | laneRead | answerTimeout =>
    refine whenRunning_ledger h ?_
    split <;> simp
  | laneSettings =>
    refine whenRunning_ledger h ?_
    split
    · dsimp only
      split <;> simp
    · rfl
  | enroll | restore =>
    refine whenRunning_ledger h ?_
    split
    · dsimp only
      split <;> simp
    · simp
    · rfl
  | release =>
    refine whenRunning_ledger h ?_
    split
    · dsimp only
      split
      · simp
      · simp
      · simp
      · split <;> simp
    · simp
    · rfl
  | sendPoll =>
    refine whenRunning_ledger h ?_
    dsimp only
    split <;> simp
  | laneAnswer =>
    refine whenRunning_ledger h ?_
    split
    · rfl
    · dsimp only
      split <;> simp
  | lineStuck =>
    refine whenRunning_ledger h ?_
    dsimp only
    split
    · split
      · rfl
      · split <;> simp
    · rfl
  | lineIdleResume =>
    refine whenRunning_ledger h ?_
    dsimp only
    split
    · split <;> simp
    · rfl
  | minuteAdvance =>
    refine ledger_of_next h ?_
    dsimp only
    split
    · split <;> simp
    · rfl
  | secondsCountAdvance =>
    refine ledger_of_next h ?_
    split
    · simp
    · split <;> simp
  | backupFailure => exact ledger_of_next h rfl
  | mainSupplyLoss | mainSupplyReturn | resetLineRelease =>
    refine ledger_of_next h ?_
    split <;> rfl
  | resetLineAssert =>
    refine ledger_of_next h ?_
    split
    · rfl
    · split <;> rfl

/-- The engine's commands and the two starts keep R105 by their own laws; no other command bears on it. -/
theorem exec_ordersRide {i : Instr} (hs : s.sale.Rides) (h : exec i s = .next t) :
    t.sale.OrdersRide := by
  have hdequeued : s.dequeued.sale.Rides := hs.of_ledger rfl
  cases i with
  | creditOrder =>
    refine whenRunning_ordersRide h hs.orders ?_
    split
    · exact creditOrder_ordersRide hdequeued.orders
    · exact hs.orders
  | cancelCredit =>
    refine whenRunning_ordersRide h hs.orders ?_
    split
    · exact cancelCredit_ordersRide hdequeued.orders
    · exact hs.orders
  | doubtDismiss =>
    refine whenRunning_ordersRide h hs.orders ?_
    split
    · exact (dismiss_rides hdequeued).orders
    · exact hs.orders
  | saleOpen | reverse =>
    refine whenRunning_ordersRide h hs.orders ?_
    split
    · exact present_ordersRide hdequeued
    · exact hs.orders
  | saleDone =>
    refine whenRunning_ordersRide h hs.orders ?_
    split
    · exact complete_ordersRide hdequeued (done_rides hdequeued)
    · exact hs.orders
  | saleTorn =>
    refine whenRunning_ordersRide h hs.orders ?_
    split
    · exact complete_ordersRide hdequeued (torn_rides hdequeued)
    · exact hs.orders
  | saleCancel =>
    refine whenRunning_ordersRide h hs.orders ?_
    split
    · exact complete_ordersRide hdequeued (cancelled_rides hdequeued)
    · exact hs.orders
  | writeTimerExpiry n =>
    refine whenRunning_ordersRide h hs.orders ?_
    split
    next hfound => exact (moveToDoubt_rides .timer hs (List.mem_of_find?_eq_some hfound)).orders
    · exact hs.orders
  | lossEvent =>
    refine whenRunning_ordersRide h hs.orders ?_
    split
    · exact hs.orders
    next l rest _ =>
      have hu : { s with sale := { s.sale with losses := rest } }.sale.Rides := hs.of_ledger rfl
      dsimp only
      split
      next hfound => exact (takeLoss_rides l.cause hu (List.mem_of_find?_eq_some hfound)).orders
      · exact hu.orders
  | warmStart =>
    obtain rfl := Host.Outcome.next.inj h
    split
    · exact (warmStart_rides _ hs).orders
    · exact hs.orders
  | coldStart =>
    obtain rfl := Host.Outcome.next.inj h
    split
    · exact initial_ordersRide
    · exact hs.orders
  | _ => exact hs.orders.of_ledger (exec_ledger rfl h)

end Commands

/-- Settles O8: the command's law, from the distinct sale numbers that the journal's law gives; an idle step
changes nothing. -/
theorem ordersRideKept : Obligations.OrdersRideKept := by
  intro s t hj ho hstep
  have hs := rides_of_journalLaw hj ho
  unfold step at hstep
  split at hstep
  · obtain rfl := Host.Outcome.next.inj hstep
    exact ho
  next c rest _ => exact exec_ordersRide (s := { s with pending := rest }) hs hstep

end Sys2Proof.Machine

/-! PROOFS. The engine's changes in one equation each: the record of a sale, the ends of a doubt entry, and the
ends of a context (04 R78, R81, R82; 05 R89 to R95). -/

namespace Sys2Proof.Machine

open Sys2Proof

/-! ### The sixteen places -/

section Sixteen

variable {α : Type} (t : Sixteen α) (x : α)

@[simp] theorem stationGet_stationSet_self (st : StationId) :
    stationGet (stationSet t st x) st = x := by
  rcases st with ⟨_ | _, a⟩ <;> exact Eight.get_set_self _ a x

theorem stationGet_stationSet_other {st su : StationId} (h : su ≠ st) :
    stationGet (stationSet t st x) su = stationGet t su := by
  rcases st with ⟨_ | _, a⟩ <;> rcases su with ⟨_ | _, b⟩
  · exact Eight.get_set_other _ (fun e => h (congrArg (StationId.mk _) e)) x
  · rfl
  · rfl
  · exact Eight.get_set_other _ (fun e => h (congrArg (StationId.mk _) e)) x

theorem Eight.set_get (u : Eight α) (i : Fin 8) : u.set i (u.get i) = u := by
  fin_cases i <;> rfl

@[simp] theorem stationSet_stationGet (st : StationId) : stationSet t st (stationGet t st) = t := by
  rcases st with ⟨_ | _, a⟩ <;> simp [stationSet, stationGet, Eight.set_get]

@[simp] theorem stationGet_fill (st : StationId) : stationGet (Sixteen.fill x) st = x := by
  rcases st with ⟨_ | _, a⟩ <;> simp [stationGet]

end Sixteen

/-! ### Reports that join the queue one after another (12 R191) -/

section Reported

variable (o : OfficeLink) (rs : List Report)

@[simp] theorem reported_nil : o.reported [] = o := rfl

theorem reported_cons (r : Report) : o.reported (r :: rs) = (o.queueReport r).reported rs := rfl

theorem reported_append (qs : List Report) : o.reported (rs ++ qs) = (o.reported rs).reported qs :=
  List.foldl_append

theorem queueReport_reported (r : Report) : (o.reported rs).queueReport r = o.reported (rs ++ [r]) := by
  rw [reported_append]; rfl

@[simp] theorem reported_tags : (o.reported rs).tags = o.tags := by
  induction rs generalizing o with
  | nil => rfl
  | cons r rs ih => rw [reported_cons, ih, queueReport_tags]

@[simp] theorem reported_replies : (o.reported rs).replies = o.replies := by
  induction rs generalizing o with
  | nil => rfl
  | cons r rs ih => rw [reported_cons, ih, queueReport_replies]

@[simp] theorem reported_refusals : (o.reported rs).refusals = o.refusals := by
  induction rs generalizing o with
  | nil => rfl
  | cons r rs ih => rw [reported_cons, ih, queueReport_refusals]

/-- A report dropped while a frame is being sent marks the sending, whose frame stays. -/
theorem queueReport_frame (r : Report) :
    (o.queueReport r).sending.map (·.frame) = o.sending.map (·.frame) := by
  unfold OfficeLink.queueReport
  split
  · rfl
  · simp [Function.comp_def]

theorem reported_frame : (o.reported rs).sending.map (·.frame) = o.sending.map (·.frame) := by
  induction rs generalizing o with
  | nil => rfl
  | cons r rs ih => rw [reported_cons, ih, queueReport_frame]

theorem reported_bounded (h : o.reports.length ≤ Config.reportQueueSize) :
    (o.reported rs).reports.length ≤ Config.reportQueueSize := by
  induction rs generalizing o with
  | nil => exact h
  | cons r rs ih => exact ih _ (queueReport_bounded o r h)

end Reported

/-! ### A station's record within the state -/

section SetStation

variable (s : State) (st : StationId) (r : StationRecord)

theorem setStation_of_sale (e : SaleEngine) :
    { s with sale := e }.setStation st r = { s.setStation st r with sale := e } := by
  rcases st with ⟨_ | _, a⟩ <;> rfl

theorem setStation_of_office (o : OfficeLink) :
    { s with office := o }.setStation st r = { s.setStation st r with office := o } := by
  rcases st with ⟨_ | _, a⟩ <;> rfl

theorem setStation_of_totals (j : JournalTotals) :
    { s with totals := j }.setStation st r = { s.setStation st r with totals := j } := by
  rcases st with ⟨_ | _, a⟩ <;> rfl

@[simp] theorem station_of_sale (e : SaleEngine) : { s with sale := e }.station st = s.station st := by
  rcases st with ⟨_ | _, a⟩ <;> rfl

@[simp] theorem station_of_office (o : OfficeLink) :
    { s with office := o }.station st = s.station st := by
  rcases st with ⟨_ | _, a⟩ <;> rfl

@[simp] theorem station_of_totals (j : JournalTotals) :
    { s with totals := j }.station st = s.station st := by
  rcases st with ⟨_ | _, a⟩ <;> rfl

@[simp] theorem setStation_setStation (x : StationRecord) :
    (s.setStation st r).setStation st x = s.setStation st x := by
  have two : ∀ (t : Eight StationRecord) (a : Fin 8), (t.set a r).set a x = t.set a x := fun t a => by
    fin_cases a <;> rfl
  rcases st with ⟨_ | _, a⟩ <;>
    simp [State.setStation, State.setLane, State.lane, LaneControl.setStation, two]

@[simp] theorem setStation_station : s.setStation st (s.station st) = s := by
  rcases st with ⟨_ | _, a⟩ <;>
    simp [State.setStation, State.setLane, State.lane, State.station, LaneControl.setStation,
      Eight.set_get]

/-- A write to a station's record leaves the lanes' own fields. -/
theorem lanesKept_setStation : s.LanesKept (s.setStation st r) := by
  rcases st with ⟨_ | _, a⟩ <;> rintro (_ | _) <;> rfl

end SetStation

/-! ### One record more, and the orders delivered (06 R111, 11 R178) -/

theorem appendRecord_eq (s : State) (b : RecordBody) :
    s.appendRecord b =
      { s with totals := s.totalsAfter b, office := s.office.reported (s.highReports b) } := by
  obtain ⟨ht, ho⟩ := appendRecord_after s b
  rw [← ht, ← ho]
  simp only [State.appendRecord]
  split <;> rfl

theorem deliverOrders_eq (s : State) (d : SaleData) (how : SaleEnd) (n : Nat) :
    s.deliverOrders d how n =
      { s with
        sale := { s.sale with credits := removeOrders d.riding s.sale.credits }
        office := s.office.reported (if d.riding = [] then []
          else [.creditDelivered d.card d.sale d.station how n (namedOrders d.riding s.sale.credits)
            d.figures.k]) } := by
  unfold State.deliverOrders
  split
  next h => simp only [h]; rfl
  next h => rfl

/-! ### The ends of a doubt entry (05 R92 to R95) -/

theorem closeEntry_eq (s : State) (e : DoubtEntry) (how : SaleEnd) (way : DoubtWay) (journal : Nat) :
    s.closeEntry e how way journal =
      { s with
        sale := { s.sale with
          doubts := s.sale.doubts.filter fun d => d.data.sale ≠ e.data.sale
          memory := updateCard s.sale.memory e.data.card (CardRecord.setDoubt false)
          lastClosed := stationSet s.sale.lastClosed e.data.station (some ⟨e.data.sale, how⟩) }
        office := s.office.reported [.doubtClosed e.data.card e.data.sale e.data.station how way journal
          (s.sale.doubts.filter fun d => d.data.sale ≠ e.data.sale).length] } := rfl

/-- R183: the outcomes that no counter counts. -/
theorem count_of_uncounted (t : Counters) {b : RecordBody}
    (h : b.outcome = .voidedAfterDoubt ∨ b.outcome = .unresolved) : t.count b = t := if_pos h

theorem totalsAfter_uncounted (s : State) {b : RecordBody}
    (h : b.outcome = .voidedAfterDoubt ∨ b.outcome = .unresolved) :
    (s.totalsAfter b).period = s.totals.period ∧ (s.totalsAfter b).daily = s.totals.daily := by
  simp [State.totalsAfter, count_of_uncounted _ h]

section EndsDoubt

variable (s : State) (e : DoubtEntry) (way : DoubtWay)

theorem endHappened_endsDoubt : EndsDoubt s e .committedLate way (s.endHappened e way) := by
  constructor <;>
    simp [State.endHappened, appendRecord_eq, deliverOrders_eq, closeEntry_eq, State.mapCard,
      RecordOutcome.saleEnd, State.deliveredReports, reported_append, State.time]

theorem endNotHappened_endsDoubt :
    EndsDoubt s e .voidedAfterDoubt way (s.endNotHappened e way) := by
  have hcount := totalsAfter_uncounted s (b := e.data.record .voidedAfterDoubt) (.inl rfl)
  constructor <;>
    simp [State.endNotHappened, appendRecord_eq, closeEntry_eq, State.mapCredits, hcount,
      RecordOutcome.saleEnd, reported_append]

theorem endUnresolved_endsDoubt : EndsDoubt s e .unresolved way (s.endUnresolved e way) := by
  have hcount := totalsAfter_uncounted s (b := e.data.record .unresolved) (.inr rfl)
  constructor <;>
    simp [State.endUnresolved, appendRecord_eq, closeEntry_eq, State.mapCredits, hcount,
      RecordOutcome.saleEnd, reported_append]

end EndsDoubt

/-! ### The context-ended notice (09 R155, R158) and the ends of a context (04 R78, R81) -/

theorem contextEnded_eq (s : State) (st : StationId) :
    s.contextEnded st =
      { s.setStation st (s.station st).freed with
        office := s.office.reported (s.leavingReports st) } := by
  simp only [State.contextEnded, StationRecord.freed, State.leavingReports, StationRecord.leaves,
    decide_eq_true_eq]
  split
  · simp [State.queueReport, OfficeLink.reported]
  · rcases st with ⟨_ | _, a⟩ <;> rfl

theorem lanesKept_trans {s t u : State} (h : s.LanesKept t) (h' : t.LanesKept u) : s.LanesKept u :=
  fun l => by rw [h' l, h l]

/-- A state with the lanes of another has its stations. -/
theorem station_of_lanes {s u : State} (ha : u.laneA = s.laneA) (hb : u.laneB = s.laneB)
    (st : StationId) : u.station st = s.station st := by
  rcases st with ⟨_ | _, a⟩ <;> simp [State.station, State.lane, ha, hb]

theorem lanesKept_of_lanes {s u t : State} (ha : u.laneA = s.laneA) (hb : u.laneB = s.laneB)
    (h : u.LanesKept t) : s.LanesKept t := by
  rintro (_ | _)
  · have := h .a
    simpa [State.lane, ha] using this
  · have := h .b
    simpa [State.lane, hb] using this

/-- What the notice does from a state that has the lanes of `s`. -/
structure Notified (s u : State) (st : StationId) : Prop where
  station : (u.contextEnded st).station st = (s.station st).freed
  stations : ∀ su, su ≠ st → (u.contextEnded st).station su = s.station su
  lanes : s.LanesKept (u.contextEnded st)
  office : (u.contextEnded st).office = u.office.reported (s.leavingReports st)

theorem contextEnded_notified {s u : State} (st : StationId) (ha : u.laneA = s.laneA)
    (hb : u.laneB = s.laneB) : Notified s u st where
  station := by rw [station_contextEnded, station_of_lanes ha hb]
  stations := fun su h => by rw [station_contextEnded_other u h, station_of_lanes ha hb]
  lanes := by
    rw [contextEnded_eq]
    exact lanesKept_of_lanes ha hb (lanesKept_setStation u st _)
  office := by simp [contextEnded_eq, State.leavingReports, station_of_lanes ha hb]

/-- R78 up to the notice to the station. -/
def State.committing (s : State) (c : Context) : State :=
  { s with
    totals := s.totalsAfter (c.data.record .committed)
    office := s.office.reported
      (s.highReports (c.data.record .committed) ++ s.deliveredReports c.data .committed)
    sale := { s.sale with
      contexts := s.sale.contexts.filter fun x => x.data.sale ≠ c.data.sale
      credits := removeOrders c.data.riding s.sale.credits
      memory := updateCard s.sale.memory c.data.card
        (CardRecord.committed c.data s.hall.hallId s.totals.next s.time)
      lastClosed := stationSet s.sale.lastClosed c.data.station (some ⟨c.data.sale, .committed⟩) } }

theorem commit_eq (s : State) (c : Context) :
    s.commit c = (s.committing c).contextEnded c.data.station := by
  simp [State.commit, State.committing, appendRecord_eq, deliverOrders_eq, State.mapCard, State.time,
    State.removeContext, State.setNote, reported_append, State.deliveredReports]

theorem commit_isCommit (s : State) (c : Context) : IsCommit s c (s.commit c) := by
  have hn : Notified s (s.committing c) c.data.station := contextEnded_notified _ rfl rfl
  rw [commit_eq]
  constructor
  case station => exact hn.station
  case stations => exact hn.stations
  case lanes => exact hn.lanes
  case office => rw [hn.office]; exact (reported_append ..).symm
  all_goals simp [State.committing]

theorem withdraw_leaves (r : StationRecord) (n : Nat) : (r.withdraw n).leaves = r.leaves := by
  unfold StationRecord.withdraw
  split <;> rfl

theorem freed_holdsOrder (r : StationRecord) (n : Nat) : r.freed.holdsOrder n = r.holdsOrder n := by
  have hslot : r.freed.slot = r.slot := by
    unfold StationRecord.freed
    split <;> rfl
  rw [StationRecord.holdsOrder, StationRecord.holdsOrder, hslot]

/-- R155: after the withdrawal of a sale's WRITE_ORDER the slot does not hold it. -/
theorem withdraw_holdsOrder (r : StationRecord) (n : Nat) : (r.withdraw n).holdsOrder n = false := by
  unfold StationRecord.withdraw
  split
  · rfl
  next h => simpa using h

/-- R81 but for the withdrawal and the notice to the station. -/
def State.voiding (s : State) (c : Context) : State :=
  { s with sale := { s.sale with
      contexts := s.sale.contexts.filter fun x => x.data.sale ≠ c.data.sale
      credits := returnOrders c.data.riding s.sale.credits
      memory := updateCard s.sale.memory c.data.card (CardRecord.setInUse none)
      lastClosed := stationSet s.sale.lastClosed c.data.station (some ⟨c.data.sale, .voided⟩) } }

/-- The state in which a void finds the station's record: the WRITE_ORDER of an unsent sale withdrawn. -/
def State.recalled (s : State) (c : Context) : State :=
  if c.state = .pricedUnsent then s.withdraw c.data.station c.data.sale else s

theorem voidContext_eq (s : State) (c : Context) :
    s.voidContext c = ((s.recalled c).voiding c).contextEnded c.data.station := by
  unfold State.voidContext State.recalled
  split
  · simp [State.voiding, State.mapCredits, State.mapCard, State.removeContext, State.setNote,
      State.withdraw, setStation_of_sale]
  · rfl

section Recalled

variable (s : State) (c : Context)

theorem recalled_eq : s.recalled c = s.setStation c.data.station
    (if c.state = .pricedUnsent then (s.station c.data.station).withdraw c.data.sale
      else s.station c.data.station) := by
  unfold State.recalled
  split
  · rfl
  · simp

theorem voidContext_isVoid : IsVoid s c (s.voidContext c) := by
  have hn : Notified (s.recalled c) ((s.recalled c).voiding c) c.data.station :=
    contextEnded_notified _ rfl rfl
  have hstation : ((s.recalled c).station c.data.station) =
      if c.state = .pricedUnsent then (s.station c.data.station).withdraw c.data.sale
        else s.station c.data.station := by simp [recalled_eq]
  have hreports : (s.recalled c).leavingReports c.data.station = s.leavingReports c.data.station := by
    rw [State.leavingReports, hstation]
    split <;> simp [withdraw_leaves, State.leavingReports]
  rw [voidContext_eq]
  constructor
  case station => rw [hn.station, hstation]
  case order =>
    intro h
    rw [hn.station, freed_holdsOrder, hstation, if_pos h, withdraw_holdsOrder]
  case stations =>
    intro su h
    rw [hn.stations su h, recalled_eq, station_setStation_other _ h]
  case lanes =>
    exact lanesKept_trans (recalled_eq s c ▸ lanesKept_setStation s _ _) hn.lanes
  case office =>
    rw [hn.office, hreports, State.voiding]
    simp [recalled_eq]
  all_goals simp [State.voiding, recalled_eq]

end Recalled

/-! ### The move to the Doubt List (04 R82, 05 R90) -/

theorem pushOut_of_room {s : State} (h : s.sale.pushed = none) : s.pushOut = s := by
  unfold SaleEngine.pushed at h
  unfold State.pushOut
  cases hd : s.sale.doubts with
  | nil => rfl
  | cons e rest =>
    simp only [hd] at h ⊢
    split at h
    · simp at h
    next hroom => rw [if_neg hroom]

theorem pushOut_of_full {s : State} {e : DoubtEntry} (h : s.sale.pushed = some e) :
    s.sale.doubts.head? = some e ∧ s.pushOut = s.endUnresolved e .pushOut := by
  unfold SaleEngine.pushed at h
  split at h
  next hfull =>
    refine ⟨h, ?_⟩
    unfold State.pushOut
    cases hd : s.sale.doubts with
    | nil => simp [hd] at h
    | cons x rest =>
      obtain rfl : x = e := by simpa [hd] using h
      dsimp only
      rw [← hd, if_pos hfull]
  · contradiction

/-- The oldest entry's end takes it alone out of the list, sale numbers in flight being different. -/
theorem filter_head_doubt {e : SaleEngine} (hn : e.Numbered) {d : DoubtEntry}
    (h : e.doubts.head? = some d) :
    (e.doubts.filter fun x => x.data.sale ≠ d.data.sale) = e.doubts.tail := by
  obtain ⟨rest, hd⟩ : ∃ rest, e.doubts = d :: rest := by
    cases hl : e.doubts with
    | nil => simp [hl] at h
    | cons x rest => exact ⟨rest, by simpa [hl] using h⟩
  have hnodup : (e.doubts.map (·.data.sale)).Nodup := hn.distinct.of_append_right
  rw [hd, List.map_cons, List.nodup_cons] at hnodup
  rw [hd, List.filter_cons_of_neg (by simp), List.tail_cons]
  exact List.filter_eq_self.mpr fun x hx =>
    decide_eq_true fun heq : x.data.sale = d.data.sale => hnodup.1 (heq ▸ List.mem_map_of_mem hx)

/-- R82 after the push-out and the withdrawal, up to the notice to the station. -/
def State.moving (s : State) (c : Context) (cause : DoubtCause) : State :=
  { s with
    sale := { s.sale with
      contexts := s.sale.contexts.filter fun x => x.data.sale ≠ c.data.sale
      doubts := s.sale.doubts ++ [{ data := c.data, created := s.time, cause := cause }]
      memory := updateCard s.sale.memory c.data.card fun r => (r.setDoubt true).setInUse none }
    office := s.office.reported [.doubtRaised c.data.card c.data.sale c.data.station c.data.kind cause
      c.data.expected c.data.riding (s.sale.doubts.length + 1)] }

theorem moveToDoubt_eq (s : State) (c : Context) (cause : DoubtCause) :
    s.moveToDoubt c cause =
      ((s.pushOut.withdraw c.data.station c.data.sale).moving c cause).contextEnded c.data.station := by
  simp [State.moveToDoubt, State.moving, State.addDoubt, State.mapCard, State.removeContext,
    State.withdraw, setStation_of_sale, State.queueReport, OfficeLink.reported, State.time]

/-- 05 R90: what the push-out of the oldest entry of a full list leaves. -/
structure PushedOut (s u : State) : Prop where
  doubts : u.sale.doubts = if s.sale.pushed.isSome then s.sale.doubts.tail else s.sale.doubts
  credits : u.sale.credits =
    match s.sale.pushed with
    | none => s.sale.credits
    | some e => removeOrders e.data.riding s.sale.credits
  totals : u.totals =
    match s.sale.pushed with
    | none => s.totals
    | some e => s.totalsAfter (e.data.record .unresolved)
  counters : u.totals.period = s.totals.period ∧ u.totals.daily = s.totals.daily
  memory : u.sale.memory =
    match s.sale.pushed with
    | none => s.sale.memory
    | some e => updateCard s.sale.memory e.data.card (CardRecord.setDoubt false)
  notes : u.sale.lastClosed =
    match s.sale.pushed with
    | none => s.sale.lastClosed
    | some e => stationSet s.sale.lastClosed e.data.station (some ⟨e.data.sale, .unresolved⟩)
  office : u.office = s.office.reported
    (match s.sale.pushed with
      | none => []
      | some e => s.highReports (e.data.record .unresolved)
        ++ [.doubtClosed e.data.card e.data.sale e.data.station .unresolved .pushOut s.totals.next
            s.sale.doubts.tail.length])
  engine : u.sale.contexts = s.sale.contexts ∧ u.sale.queue = s.sale.queue ∧
    u.sale.counter = s.sale.counter ∧ u.sale.timerSetting = s.sale.timerSetting ∧
    u.sale.deliveries = s.sale.deliveries ∧ u.sale.losses = s.sale.losses
  others : u.laneA = s.laneA ∧ u.laneB = s.laneB ∧ u.hall = s.hall ∧ u.decoder = s.decoder ∧
    u.tariff = s.tariff ∧ u.clock = s.clock ∧ u.pending = s.pending

theorem pushOut_pushedOut {s : State} (hn : s.sale.Numbered) : PushedOut s s.pushOut := by
  cases hp : s.sale.pushed with
  | none =>
    rw [pushOut_of_room hp]
    constructor <;> simp [hp]
  | some e =>
    obtain ⟨hhead, hpush⟩ := pushOut_of_full hp
    have hends := endUnresolved_endsDoubt s e .pushOut
    have htail : s.pushOut.sale.doubts = s.sale.doubts.tail := by
      rw [hpush, hends.doubts, filter_head_doubt hn hhead]
    rw [hpush] at htail ⊢
    constructor
    case counters => exact hends.counted (.inr rfl)
    case engine => exact hends.engine
    case others => exact hends.others
    case office => simp [hends.office, htail, hp, RecordOutcome.saleEnd]
    all_goals
      simp [hp, htail, hends.credits, hends.totals, hends.notes, hends.memory, RecordOutcome.saleEnd]

theorem moveToDoubt_isMove {s : State} (hn : s.sale.Numbered) (c : Context) (cause : DoubtCause) :
    IsMoveToDoubt s c cause (s.moveToDoubt c cause) := by
  have hp := pushOut_pushedOut hn
  obtain ⟨hcontexts, hengine⟩ := hp.engine
  obtain ⟨ha, hb, hhall, hdecoder, htariff, hclock, hpending⟩ := hp.others
  let v := s.pushOut.withdraw c.data.station c.data.sale
  have hnote : Notified v (v.moving c cause) c.data.station := contextEnded_notified _ rfl rfl
  have hsale : v.sale = s.pushOut.sale := State.withdraw_sale ..
  have hstation : v.station c.data.station =
      (s.station c.data.station).withdraw c.data.sale := by
    simp [v, State.withdraw, station_of_lanes ha hb]
  have hreports : v.leavingReports c.data.station = s.leavingReports c.data.station := by
    simp [State.leavingReports, hstation, withdraw_leaves]
  rw [moveToDoubt_eq]
  constructor
  case station => rw [hnote.station, hstation]
  case order => rw [hnote.station, freed_holdsOrder, hstation, withdraw_holdsOrder]
  case stations =>
    intro su h
    rw [hnote.stations su h]
    exact (station_setStation_other _ h _).trans (station_of_lanes ha hb su)
  case lanes =>
    exact lanesKept_trans (lanesKept_of_lanes ha hb (lanesKept_setStation _ _ _)) hnote.lanes
  case office =>
    rw [hnote.office, hreports, State.contextEnded_sale, reported_append, reported_append]
    simp only [v, State.moving, State.withdraw_office, State.withdraw_sale, hp.office,
      List.length_append, List.length_singleton] <;> rfl
  case credits =>
    rw [State.contextEnded_sale]
    exact (congrArg SaleEngine.credits hsale).trans hp.credits
  case totals =>
    rw [State.contextEnded_totals]
    exact (State.withdraw_totals ..).trans hp.totals
  case notes =>
    rw [State.contextEnded_sale]
    exact (congrArg SaleEngine.lastClosed hsale).trans hp.notes
  case memory =>
    rw [State.contextEnded_sale]
    exact congrArg (updateCard · c.data.card fun r => (r.setDoubt true).setInUse none)
      ((congrArg SaleEngine.memory hsale).trans hp.memory)
  all_goals
    simp [State.moving, hcontexts, hp.doubts, hp.counters, hengine, hhall, hdecoder, htariff, hclock,
      hpending, State.time]

end Sys2Proof.Machine

/-! PROOFS. The Sale Engine's completions and events, and DOUBT_DISMISS (04 R57 to R61, R73 to R83; 05 R98,
R100). -/

namespace Sys2Proof.Machine

open Sys2Proof

/-! ### Card Memory -/

theorem findCard_updateCard (m : List CardRecord) (card x : Nat) {f : CardRecord → CardRecord}
    (hf : ∀ r, (f r).card = r.card) :
    findCard (updateCard m card f) x =
      if x = card then (findCard m x).map f else findCard m x := by
  unfold findCard updateCard
  induction m with
  | nil => simp
  | cons r m ih =>
    rw [List.map_cons]
    by_cases hr : r.card = card
    · rw [if_pos hr]
      by_cases hx : r.card = x
      · have hxc : x = card := hx.symm.trans hr
        simp [hf, hx, hxc]
      · simp [hf, hx, ih]
    · rw [if_neg hr]
      by_cases hx : r.card = x
      · have hxc : x ≠ card := fun e => hr (hx.trans e)
        simp [hx, hxc]
      · simp [hx, ih]

theorem findCard_updateCard_self {m : List CardRecord} {card : Nat} {r : CardRecord}
    {f : CardRecord → CardRecord} (hf : ∀ r, (f r).card = r.card) (h : findCard m card = some r) :
    findCard (updateCard m card f) card = some (f r) := by
  rw [findCard_updateCard m card card hf, if_pos rfl, h]
  rfl

theorem committedLate_card (d : SaleData) (hall : Option Nat) (journal : Nat) (now : Time)
    (r : CardRecord) : (CardRecord.committedLate d hall journal now r).card = r.card := by
  simp only [CardRecord.committedLate]
  split <;> rfl

/-! ### Sale numbers (04 R64) -/

theorem numbered_of_eq {e e' : SaleEngine} (hn : e.Numbered) (hc : e'.contexts = e.contexts)
    (hd : e'.doubts = e.doubts) (hk : e'.counter = e.counter) : e'.Numbered := by
  have hheld : e'.heldNumbers = e.heldNumbers := by simp [SaleEngine.heldNumbers, hc, hd]
  exact ⟨hheld ▸ hn.distinct, hheld ▸ hn.range, hk ▸ hn.counter_pos, hk ▸ hn.counter_le⟩

theorem SaleEngine.Numbered.contexts_nodup {e : SaleEngine} (h : e.Numbered) :
    (e.contexts.map (·.data.sale)).Nodup := h.distinct.of_append_left

theorem SaleEngine.Numbered.doubts_nodup {e : SaleEngine} (h : e.Numbered) :
    (e.doubts.map (·.data.sale)).Nodup := h.distinct.of_append_right

/-! ### The record of a sale (11 R177), and what the counters make of it (11 R183) -/

theorem record_recordOf (d : SaleData) (o : RecordOutcome) : RecordOf d o (d.record o) := by
  constructor
  case kind => cases hk : d.kind <;> simp [SaleData.record, SaleKind.record, hk]
  all_goals simp [SaleData.record]

theorem count_counted (t : Counters) (b : RecordBody) : Counted t b (t.count b) := by
  have counts : b.outcome = .committed ∨ b.outcome = .committedLate →
      ¬ (b.outcome = .voidedAfterDoubt ∨ b.outcome = .unresolved) := by
    rintro (h | h) <;> simp [h]
  constructor
  case uncounted => exact count_of_uncounted t
  all_goals
    intro ho hk
    simp [Counters.count, if_neg (counts ho), hk, satAdd]

/-! ### What a completion concerns (04 R76) -/

section Found

variable {e : SaleEngine} {st : StationId} {n : Nat}

theorem context_of_found {c : Context} (h : e.found st n = .context c) :
    c.data.station = st ∧ c.data.sale = n := by
  unfold SaleEngine.found at h
  split at h
  next hat =>
    obtain rfl := Found.context.inj h
    simpa using List.find?_some hat
  · split at h
    · contradiction
    · split at h
      · split at h <;> contradiction
      · contradiction

theorem doubt_of_found {d : DoubtEntry} (h : e.found st n = .doubt d) :
    d.data.station = st ∧ d.data.sale = n := by
  unfold SaleEngine.found at h
  split at h
  · contradiction
  · split at h
    next hat =>
      obtain rfl := Found.doubt.inj h
      simpa using List.find?_some hat
    · split at h
      · split at h <;> contradiction
      · contradiction

theorem found_dequeued (s : State) : s.dequeued.sale.found st n = s.sale.found st n := rfl

@[simp] theorem station_dequeued (s : State) : s.dequeued.station st = s.station st :=
  station_of_sale ..

end Found

/-! ### The tables of the completions (04 R77, R79, R80) -/

section Tables

variable {s : State} {st : StationId} {n : Nat}

theorem done_context {c : Context} {k : Nat} (h : s.sale.found st n = .context c)
    (hc : c.state = .writeOrdered k) :
    s.done st n = (s.commit c, .doneOk n s.totals.next c.data.newBalance) := by
  simp only [State.done, h, hc]

theorem done_unsent {c : Context} (h : s.sale.found st n = .context c) (hc : c.state = .pricedUnsent) :
    s.done st n = (s, .wrongState n) := by
  simp only [State.done, h, hc]

theorem done_doubt {e : DoubtEntry} (h : s.sale.found st n = .doubt e) :
    s.done st n = (s.endHappened e .lateDone, .late .happened s.totals.next) := by
  simp only [State.done, h]

theorem done_closed {how : SaleEnd} (h : s.sale.found st n = .closed how) :
    s.done st n = (s, .alreadyClosed how) := by
  simp only [State.done, h]

theorem done_nothing (h : s.sale.found st n = .nothing) : s.done st n = (s, .noSuchSale) := by
  simp only [State.done, h]

theorem torn_context {c : Context} {k : Nat} (h : s.sale.found st n = .context c)
    (hc : c.state = .writeOrdered k) : s.torn st n = (s.moveToDoubt c .torn, .saleOk n) := by
  simp only [State.torn, h, hc]

theorem torn_unsent {c : Context} (h : s.sale.found st n = .context c) (hc : c.state = .pricedUnsent) :
    s.torn st n = (s.voidContext c, .saleOk n) := by
  simp only [State.torn, h, hc]

theorem torn_doubt {e : DoubtEntry} (h : s.sale.found st n = .doubt e) :
    s.torn st n = (s, .saleOk n) := by
  simp only [State.torn, h]

theorem torn_closed {how : SaleEnd} (h : s.sale.found st n = .closed how) :
    s.torn st n = (s, .alreadyClosed how) := by
  simp only [State.torn, h]

theorem torn_nothing (h : s.sale.found st n = .nothing) : s.torn st n = (s, .noSuchSale) := by
  simp only [State.torn, h]

theorem cancelled_context {c : Context} (h : s.sale.found st n = .context c) :
    s.cancelled st n = (s.voidContext c, .saleOk n) := by
  simp only [State.cancelled, h]

theorem cancelled_doubt {e : DoubtEntry} (h : s.sale.found st n = .doubt e) :
    s.cancelled st n = (s.endNotHappened e .lateCancel, .late .notHappened s.totals.next) := by
  simp only [State.cancelled, h]

theorem cancelled_closed {how : SaleEnd} (h : s.sale.found st n = .closed how) :
    s.cancelled st n = (s, .alreadyClosed how) := by
  simp only [State.cancelled, h]

theorem cancelled_nothing (h : s.sale.found st n = .nothing) :
    s.cancelled st n = (s, .noSuchSale) := by
  simp only [State.cancelled, h]

end Tables

/-! ### A completion taken (04 R76) -/

section Completion

variable {s : State} {st : StationId} {number : Byte} {n : BitVec 16}

theorem complete_pending {u : State} {table : State → State × StationReply}
    (hp : (u.station st).state = .pending) :
    u.complete st number table = u.giveReply st number .notServing := if_pos hp

theorem complete_by {u v : State} {r : StationReply} {table : State → State × StationReply}
    (hp : (u.station st).state ≠ .pending) (ht : table u = (v, r)) :
    u.complete st number table = v.giveReply st number r := by
  rw [State.complete, if_neg hp, ht]

theorem exec_saleDone (hr : s.running = true)
    (hq : s.nextRequest = some (.station st number (.saleDone n))) :
    exec .saleDone s = .next (s.dequeued.complete st number fun s => s.done st n.toNat) := by
  show whenRunning s _ = _
  rw [whenRunning_running hr, hq]

theorem exec_saleTorn (hr : s.running = true)
    (hq : s.nextRequest = some (.station st number (.saleTorn n))) :
    exec .saleTorn s = .next (s.dequeued.complete st number fun s => s.torn st n.toNat) := by
  show whenRunning s _ = _
  rw [whenRunning_running hr, hq]

theorem exec_saleCancel (hr : s.running = true)
    (hq : s.nextRequest = some (.station st number (.saleCancel n))) :
    exec .saleCancel s = .next (s.dequeued.complete st number fun s => s.cancelled st n.toNat) := by
  show whenRunning s _ = _
  rw [whenRunning_running hr, hq]

end Completion

/-- Settles O33: the record and the counters by their definitions, and each row of R77's table by what the
commit and the late commit leave. -/
theorem saleDoneCommits : Obligations.SaleDoneCommits := by
  refine ⟨record_recordOf, count_counted, fun s st number n hr hq => ?_⟩
  rw [exec_saleDone hr hq]
  refine ⟨fun hp => by rw [complete_pending (by simpa using hp)], fun hp => ?_⟩
  have hp' : (s.dequeued.station st).state ≠ .pending := by simpa using hp
  refine ⟨fun c k hf hc => ?commit, fun c hf hc => ?_, fun e hf => ?late, fun how hf => ?_, fun hf => ?_⟩
  case commit =>
    obtain ⟨rfl, hn⟩ := context_of_found hf
    have hi := commit_isCommit s.dequeued c
    refine ⟨s.dequeued.commit c, congrArg _ (complete_by hp' (done_context hf hc)), hi,
      by rw [hi.totals]; rfl, by rw [hi.notes, hn, stationGet_stationSet_self], ?flag,
      by rw [hi.totals]; rfl, by rw [hi.totals]; rfl, fun r hfound => ?_⟩
    case flag =>
      rw [hi.station, StationRecord.freed]
      split <;> rfl
    rw [hi.memory]
    exact findCard_updateCard_self (fun _ => rfl) hfound
  case late =>
    obtain ⟨rfl, hn⟩ := doubt_of_found hf
    have hi := endHappened_endsDoubt s.dequeued e .lateDone
    refine ⟨s.dequeued.endHappened e .lateDone, congrArg _ (complete_by hp' (done_doubt hf)), hi,
      by rw [hi.totals]; rfl, by rw [hi.notes, hn, stationGet_stationSet_self]; rfl, fun r hfound => ?_⟩
    have hlate : findCard (updateCard s.sale.memory e.data.card (CardRecord.committedLate e.data
        s.hall.hallId s.totals.next s.time)) e.data.card = _ :=
      findCard_updateCard_self (committedLate_card e.data _ _ _) hfound
    rw [hi.memory, if_pos rfl]
    refine (findCard_updateCard_self (f := CardRecord.setDoubt false) (fun _ => rfl) hlate).trans ?_
    simp only [CardRecord.committedLate]
    cases seqNewer e.data.expected r.seq <;> rfl
  · exact congrArg _ (complete_by hp' (done_unsent hf hc))
  · exact congrArg _ (complete_by hp' (done_closed hf))
  · exact congrArg _ (complete_by hp' (done_nothing hf))

/-- Settles O34: each row of R79's table, by what the move and the void leave. -/
theorem saleTornMoves : Obligations.SaleTornMoves := by
  intro s st number n hr hq hnum
  have hnum' : s.dequeued.sale.Numbered := numbered_of_eq hnum rfl rfl rfl
  rw [exec_saleTorn hr hq]
  refine ⟨fun hp => by rw [complete_pending (by simpa using hp)], fun hp => ?_⟩
  have hp' : (s.dequeued.station st).state ≠ .pending := by simpa using hp
  refine ⟨fun c k hf hc => ?_, fun c hf hc => ?_, fun e hf => ?_, fun how hf => ?_, fun hf => ?_⟩
  · exact ⟨_, congrArg _ (complete_by hp' (torn_context hf hc)), moveToDoubt_isMove hnum' c .torn⟩
  · exact ⟨_, congrArg _ (complete_by hp' (torn_unsent hf hc)), voidContext_isVoid s.dequeued c⟩
  · exact congrArg _ (complete_by hp' (torn_doubt hf))
  · exact congrArg _ (complete_by hp' (torn_closed hf))
  · exact congrArg _ (complete_by hp' (torn_nothing hf))

/-- Settles O35: each row of R80's table, by what the void and the end NOT_HAPPENED leave. -/
theorem saleCancelVoids : Obligations.SaleCancelVoids := by
  intro s st number n hr hq
  rw [exec_saleCancel hr hq]
  refine ⟨fun hp => by rw [complete_pending (by simpa using hp)], fun hp => ?_⟩
  have hp' : (s.dequeued.station st).state ≠ .pending := by simpa using hp
  refine ⟨fun c hf => ?_, fun e hf => ?late, fun how hf => ?_, fun hf => ?_⟩
  · exact ⟨_, congrArg _ (complete_by hp' (cancelled_context hf)), voidContext_isVoid s.dequeued c⟩
  case late =>
    obtain ⟨rfl, hn⟩ := doubt_of_found hf
    have hi := endNotHappened_endsDoubt s.dequeued e .lateCancel
    exact ⟨_, congrArg _ (complete_by hp' (cancelled_doubt hf)), hi, by rw [hi.totals]; rfl,
      by rw [hi.notes, hn, stationGet_stationSet_self]; rfl⟩
  · exact congrArg _ (complete_by hp' (cancelled_closed hf))
  · exact congrArg _ (complete_by hp' (cancelled_nothing hf))

/-! ### Taking work (04 R57, R59, R61) -/

theorem quiet_iff {e : SaleEngine} : e.quiet = true ↔
    e.deliveries = [] ∧ e.losses = [] ∧ ∀ c ∈ e.contexts, c.state ≠ .writeOrdered 0 := by
  simp [SaleEngine.quiet, Context.expired, and_assoc]

theorem nextRequest_of_event {s : State} (h : s.sale.quiet = false) : s.nextRequest = none := by
  simp [State.nextRequest, h]

theorem nextRequest_of_quiet {s : State} (h : s.sale.quiet = true) :
    s.nextRequest = nextWork s.sale.queue := by
  simp [State.nextRequest, h]

theorem nextWork_of_high {before after : List Work} {w : Work} (hw : w.high = true)
    (hb : ∀ x ∈ before, x.high = false) :
    nextWork (before ++ w :: after) = some w ∧ withoutNext (before ++ w :: after) = before ++ after := by
  have hfind : before.find? Work.high = none := List.find?_eq_none.mpr fun x hx => by simp [hb x hx]
  refine ⟨by simp [nextWork, List.find?_append, hfind, hw], ?_⟩
  rw [withoutNext, if_pos (by simp [hw]), List.eraseP_append_right _ (fun x hx => by simp [hb x hx]),
    List.eraseP_cons_of_pos hw]

theorem nextWork_of_normal {w : Work} {after : List Work} (h : ∀ x ∈ w :: after, x.high = false) :
    nextWork (w :: after) = some w ∧ withoutNext (w :: after) = after := by
  have hfind : (w :: after).find? Work.high = none := List.find?_eq_none.mpr fun x hx => by simp [h x hx]
  have hany : (w :: after).any Work.high ≠ true := by
    simpa using List.forall_mem_cons.mp h
  exact ⟨by simp [nextWork, hfind], by rw [withoutNext, if_neg hany]; rfl⟩

theorem high_iff (w : Work) : w.high = true ↔ ∃ st number n,
    w = .station st number (.saleDone n) ∨ w = .station st number (.saleTorn n) ∨
      w = .station st number (.saleCancel n) := by
  cases w with
  | host h => simp [Work.high]
  | station st number q => cases q <;> simp [Work.high]

/-- Settles O27: no request while the engine is not quiet, and else the queue's order by its first HIGH
entry. -/
theorem eventsBeforeRequests : Obligations.EventsBeforeRequests := by
  intro s
  refine ⟨fun h => nextRequest_of_event ?event, fun hd hl hc => ?_, high_iff⟩
  case event =>
    rw [← Bool.not_eq_true, quiet_iff]
    rintro ⟨hd, hl, hc⟩
    rcases h with h | h | ⟨c, hmem, hstate⟩
    · exact h hd
    · exact h hl
    · exact hc c hmem hstate
  rw [nextRequest_of_quiet (quiet_iff.mpr ⟨hd, hl, hc⟩)]
  refine ⟨fun before w after hq hw hb => ?_, fun w after hq hall => ?_⟩
  · rw [hq]
    exact nextWork_of_high hw hb
  · rw [hq] at hall ⊢
    exact nextWork_of_normal hall

/-! ### The engine's events (04 R73, R75, R83) and the write timer's setting (04 R74) -/

section Events

variable {s : State}

theorem exec_deliveryEvent {d : Delivery} {rest : List Delivery} (hr : s.running = true)
    (hd : s.sale.deliveries = d :: rest) :
    exec .deliveryEvent s = .next { s with sale := { s.sale with
      deliveries := rest
      contexts := s.sale.contexts.map fun c =>
        if d.names c then c.delivered s.sale.timerSetting else c } } := by
  show whenRunning s _ = _
  rw [whenRunning_running hr, hd]

/-- R73: of a context already WRITE_ORDERED the timer runs on. -/
theorem delivered_eq (timer : Nat) (c : Context) : c.delivered timer =
    if c.state = .pricedUnsent then { c with state := .writeOrdered timer } else c := by
  unfold Context.delivered
  cases h : c.state <;> simp

theorem exec_writeTimerExpiry {c : Context} (hr : s.running = true) (hn : s.sale.Numbered)
    (hc : c ∈ s.sale.contexts) (hx : c.state = .writeOrdered 0) :
    exec (.writeTimerExpiry c.data.sale) s = .next (s.moveToDoubt c .timer) := by
  have hfind : (s.sale.contexts.find? fun x => decide (x.data.sale = c.data.sale) && x.expired) =
      some c := by
    cases h : s.sale.contexts.find? fun x => decide (x.data.sale = c.data.sale) && x.expired with
    | none => simpa [Context.expired, hx] using List.find?_eq_none.mp h c hc
    | some x =>
      have hxs : x.data.sale = c.data.sale ∧ x.expired = true := by simpa using List.find?_some h
      rw [List.inj_on_of_nodup_map hn.contexts_nodup (List.mem_of_find?_eq_some h) hc hxs.1]
  show whenRunning s _ = _
  rw [whenRunning_running hr, hfind]

/-- The state once the oldest loss event has been taken. -/
def State.lossTaken (s : State) (rest : List Loss) : State :=
  { s with sale := { s.sale with losses := rest } }

theorem exec_lossEvent {l : Loss} {rest : List Loss} (hr : s.running = true)
    (hl : s.sale.losses = l :: rest) :
    exec .lossEvent s = .next (match s.sale.contextOf l.station with
      | some c => (s.lossTaken rest).takeLoss c l.cause
      | none => s.lossTaken rest) := by
  show whenRunning s _ = _
  rw [whenRunning_running hr, hl]
  rfl

theorem takeLoss_unsent {c : Context} (cause : LossCause) (hc : c.state = .pricedUnsent) :
    s.takeLoss c cause = s.voidContext c := by
  cases cause <;> simp [State.takeLoss, hc]

theorem takeLoss_dropped {c : Context} (hc : c.state ≠ .pricedUnsent) : s.takeLoss c .dropped = s := by
  cases hs : c.state with
  | pricedUnsent => exact absurd hs hc
  | writeOrdered k => simp [State.takeLoss, hs]

theorem takeLoss_lost {c : Context} {cause : LossCause} (hc : c.state ≠ .pricedUnsent)
    (hd : cause ≠ .dropped) : s.takeLoss c cause = s.moveToDoubt c .stationLost := by
  cases hs : c.state with
  | pricedUnsent => exact absurd hs hc
  | writeOrdered k =>
    cases cause with
    | dropped => exact absurd rfl hd
    | held | off => simp [State.takeLoss, hs]

theorem exec_writeTimerSet {tag : Byte} {n : Nat} (hr : s.running = true)
    (hq : s.nextRequest = some (.host ⟨tag, .writeTimerSet n⟩)) :
    exec .writeTimerSet s = .next ({ s with sale := { s.sale with
      queue := withoutNext s.sale.queue, timerSetting := takenTimer n } }.reply ⟨tag, .writeTimerSet n⟩
        (.timerSet (takenTimer n) s.sale.timerSetting)) := by
  show whenRunning s _ = _
  rw [whenRunning_running hr, hq]
  rfl

end Events

/-- Settles O36: the delivery by the context it names, the expiry and the loss by what the move and the void
leave, and the clamp of the setting. -/
theorem engineEvents : Obligations.EngineEvents := by
  intro s hr
  refine ⟨fun d rest hd => ?delivery, fun hn c hc hx => ?_, fun hn l rest hl => ?loss,
    fun tag n hq => ?timer⟩
  case delivery =>
    rw [exec_deliveryEvent hr hd]
    have hsame : ∀ c : Context, (if d.names c then c.delivered s.sale.timerSetting else c) =
        if c.data.station = d.station ∧ c.data.sale = d.sale ∧ c.state = .pricedUnsent then
          { c with state := .writeOrdered s.sale.timerSetting } else c := fun c => by
      by_cases hnames : c.data.station = d.station ∧ c.data.sale = d.sale
      · simp [Delivery.names, delivered_eq, hnames]
      · simp only [Delivery.names, hnames, ← and_assoc, false_and, decide_false, Bool.false_eq_true,
          if_false]
    simp only [hsame]
  · exact ⟨_, exec_writeTimerExpiry hr hn hc hx, moveToDoubt_isMove hn c .timer⟩
  case loss =>
    have hn' : (s.lossTaken rest).sale.Numbered := numbered_of_eq hn rfl rfl rfl
    rw [exec_lossEvent hr hl]
    refine ⟨fun hnone => by rw [hnone]; rfl, fun c hc => ?_⟩
    rw [hc]
    refine ⟨fun hu => ?_, fun ho hd => ?_, fun ho hd => ?_⟩
    · exact ⟨_, congrArg _ (takeLoss_unsent _ hu), voidContext_isVoid (s.lossTaken rest) c⟩
    · rw [hd]
      exact congrArg _ (takeLoss_dropped ho)
    · exact ⟨_, congrArg _ (takeLoss_lost ho hd), moveToDoubt_isMove hn' c .stationLost⟩
  case timer =>
    refine ⟨takenTimer n, exec_writeTimerSet hr hq, ?_⟩
    unfold takenTimer
    omega

/-! ### DOUBT_DISMISS (05 R100) -/

section Dismiss

variable {s : State} {tag : Byte} {card n : Nat} {h : Handed}

theorem exec_doubtDismiss (hr : s.running = true)
    (hq : s.nextRequest = some (.host ⟨tag, .doubtDismiss card n⟩)) :
    exec .doubtDismiss s = .next (s.dequeued.dismiss ⟨tag, .doubtDismiss card n⟩ card n) := by
  show whenRunning s _ = _
  rw [whenRunning_running hr, hq]

theorem dismiss_zero : s.dismiss h card 0 = s.reply h .badRequest := rfl

theorem dismiss_absent (hn : n ≠ 0)
    (hd : ∀ e ∈ s.sale.doubts, ¬ (e.data.card = card ∧ e.data.sale = n)) :
    s.dismiss h card n = s.reply h .noSuchSale := by
  have hfind : (s.sale.doubts.find? fun e => decide (e.data.card = card ∧ e.data.sale = n)) = none :=
    List.find?_eq_none.mpr fun e he => by simpa using hd e he
  rw [State.dismiss, if_neg hn, hfind]

theorem dismiss_entry {e : DoubtEntry} (hnum : s.sale.Numbered) (hn : n ≠ 0) (he : e ∈ s.sale.doubts)
    (hcard : e.data.card = card) (hsale : e.data.sale = n) :
    s.dismiss h card n = (s.endUnresolved e .dismiss).reply h
      (.dismissed s.totals.next (namedOrders e.data.riding s.sale.credits)) := by
  have hfind : (s.sale.doubts.find? fun x => decide (x.data.card = card ∧ x.data.sale = n)) = some e := by
    cases hf : s.sale.doubts.find? fun x => decide (x.data.card = card ∧ x.data.sale = n) with
    | none => simpa [hcard, hsale] using List.find?_eq_none.mp hf e he
    | some x =>
      have hx : x.data.card = card ∧ x.data.sale = n := by simpa using List.find?_some hf
      rw [List.inj_on_of_nodup_map hnum.doubts_nodup (List.mem_of_find?_eq_some hf) he
        (hx.2.trans hsale.symm)]
  rw [State.dismiss, if_neg hn, hfind]

end Dismiss

/-- Settles O38: the two refusals, and the end of the one entry that the request names. -/
theorem doubtDismissed : Obligations.DoubtDismissed := by
  intro s tag card n hr hq
  rw [exec_doubtDismiss hr hq]
  refine ⟨fun hn => by rw [hn, dismiss_zero], fun hn => ⟨fun hd => ?_, fun hnum e he hcard hsale => ?_⟩⟩
  · exact congrArg _ (dismiss_absent hn hd)
  · have hnum' : s.dequeued.sale.Numbered := numbered_of_eq hnum rfl rfl rfl
    have hi := endUnresolved_endsDoubt s.dequeued e .dismiss
    exact ⟨_, congrArg _ (dismiss_entry hnum' hn he hcard hsale), hi, by rw [hi.totals]; rfl⟩

end Sys2Proof.Machine


/-! PROOFS. The card: its blocks as bytes (13.4), the order of sequences (01 R7), the choice of the current slot
(01 R8), and what a card shows after a write order (05 R91). -/

namespace Sys2Proof.Machine

open Sys2Proof

/-! ### Bytes joined again -/

theorem join16_be16 (v : BitVec 16) : join16 (v.extractLsb' 8 8) (v.extractLsb' 0 8) = v := by
  apply BitVec.eq_of_getLsbD_eq
  intro i hi
  simp [join16]
  grind

theorem join24_be24 (v : BitVec 24) :
    join24 (v.extractLsb' 16 8) (v.extractLsb' 8 8) (v.extractLsb' 0 8) = v := by
  apply BitVec.eq_of_getLsbD_eq
  intro i hi
  simp [join24]
  grind

theorem join32_be32 (v : BitVec 32) :
    join32 (v.extractLsb' 24 8) (v.extractLsb' 16 8) (v.extractLsb' 8 8) (v.extractLsb' 0 8) = v := by
  apply BitVec.eq_of_getLsbD_eq
  intro i hi
  simp [join32]
  grind

/-- The stamp period comes back from the top 3 bits of the field at offset 12. -/
theorem extract_stampPeriod (p : BitVec 3) (d : BitVec 21) : (p ++ d).extractLsb' 21 3 = p := by
  apply BitVec.eq_of_getLsbD_eq
  intro i hi
  rw [BitVec.getLsbD_extractLsb', BitVec.getLsbD_append]
  simp [hi]

/-- Spend today comes back from the low 21 bits of that field. -/
theorem extract_spendToday (p : BitVec 3) (d : BitVec 21) : (p ++ d).extractLsb' 0 21 = d := by
  apply BitVec.eq_of_getLsbD_eq
  intro i hi
  rw [BitVec.getLsbD_extractLsb', BitVec.getLsbD_append]
  simp [hi]

theorem identity_ofBytes (i : IdentityBlock) : IdentityBlock.ofBytes i.bytes = some i := by
  simp [IdentityBlock.bytes, IdentityBlock.body, be32, be16, IdentityBlock.ofBytes, join32_be32,
    join16_be16]

theorem slot_ofBytes (p : PurseSlot) : PurseSlot.ofBytes p.bytes = some p := by
  simp [PurseSlot.bytes, PurseSlot.body, be24, be16, PurseSlot.ofBytes, join24_be24, join16_be16,
    extract_stampPeriod, extract_spendToday]

/-- Settles O17. -/
theorem cardBlocksRead : Obligations.CardBlocksRead :=
  ⟨fun i => ⟨rfl, identity_ofBytes i⟩, fun p => ⟨rfl, slot_ofBytes p⟩⟩

/-! ### The order of sequences -/

/-- Settles O23: each relation is a range of the difference. -/
theorem sequenceRelations : Obligations.SequenceRelations := by
  intro a b
  refine ⟨by simp [seqNewer], by simp [seqOpposed], ?older, ?same, ?next, by decide⟩
  case older => simp only [seqOlder, seqNewer, decide_eq_true_eq]; bv_omega
  case same => bv_omega
  case next => simp only [seqNewer, decide_eq_true_eq]; bv_omega

theorem seqNewer_next (q : Seq) : seqNewer (q + 1) q = true := by
  simp only [seqNewer, decide_eq_true_eq]; bv_omega

theorem seqNewer_before (q : Seq) : seqNewer q (q + 1) = false := by
  simp only [seqNewer, decide_eq_false_iff_not]; bv_omega

theorem next_ne (q : Seq) : q + 1 ≠ q := by bv_omega

/-! ### The current slot -/

/-- The slot image at an index (01 R2). -/
def CardImage.slotAt (image : CardImage) : SlotIndex → Option PurseSlot
  | .zero => image.slot0
  | .one => image.slot1

theorem slotAt_withSlot (image : CardImage) (i : SlotIndex) (p : Option PurseSlot) :
    (image.withSlot i p).slotAt i = p := by
  cases i <;> rfl

theorem slotAt_withSlot_other (image : CardImage) (i : SlotIndex) (p : Option PurseSlot) :
    (image.withSlot i p).slotAt i.other = image.slotAt i.other := by
  cases i <;> rfl

theorem slotAt_withSlot_of_other (image : CardImage) (i : SlotIndex) (p : Option PurseSlot) :
    (image.withSlot i.other p).slotAt i = image.slotAt i := by
  cases i <;> rfl

theorem validImage_some {x : Option PurseSlot} {p : PurseSlot} :
    validImage x = some p ↔ x = some p ∧ p.valid = true := by
  cases x with
  | none => simp [validImage]
  | some q =>
    by_cases hq : q.valid = true
    · simp only [validImage, hq, if_true, Option.some.injEq]
      exact ⟨fun h => ⟨h, h ▸ hq⟩, fun h => h.1⟩
    · simp only [validImage, if_neg hq, Option.some.injEq]
      exact ⟨nofun, fun ⟨h, hv⟩ => absurd (h ▸ hv) hq⟩

/-- A card whose two slot images are both valid shows the newer of them (01 R8). -/
theorem selectSlot_newer {image : CardImage} {i : SlotIndex} {p q : PurseSlot}
    (hp : validImage (image.slotAt i) = some p) (hq : validImage (image.slotAt i.other) = some q)
    (hn : seqNewer p.sequence q.sequence = true) (hb : seqNewer q.sequence p.sequence = false) :
    selectSlot image = .current p i.other := by
  cases i with
  | zero =>
    have hq' : validImage image.slot1 = some q := hq
    simp [selectSlot, show validImage image.slot0 = some p from hp, hq', hn, SlotIndex.other]
  | one =>
    have hq' : validImage image.slot0 = some q := hq
    simp [selectSlot, show validImage image.slot1 = some p from hp, hq', hn, hb, SlotIndex.other]

/-- A card with one valid slot image shows it (01 R8). -/
theorem selectSlot_only {image : CardImage} {i : SlotIndex} {p : PurseSlot}
    (hp : validImage (image.slotAt i.other) = some p) (hq : validImage (image.slotAt i) = none) :
    selectSlot image = .current p i := by
  cases i with
  | zero =>
    simp [selectSlot, show validImage image.slot1 = some p from hp,
      show validImage image.slot0 = none from hq]
  | one =>
    simp [selectSlot, show validImage image.slot0 = some p from hp,
      show validImage image.slot1 = none from hq]

/-- The current slot is the valid image of the slot that is not the target, and a valid image of the target slot
is not newer than it. -/
theorem selectSlot_current {image : CardImage} {slot : PurseSlot} {target : SlotIndex}
    (h : selectSlot image = .current slot target) :
    validImage (image.slotAt target.other) = some slot ∧
    ∀ q, validImage (image.slotAt target) = some q → seqNewer q.sequence slot.sequence = false := by
  revert h
  unfold selectSlot
  split
  · rename_i p hp hq
    rintro ⟨⟩
    exact ⟨hp, fun q h => absurd (hq.symm.trans h) nofun⟩
  · rename_i q hp hq
    rintro ⟨⟩
    exact ⟨hq, fun p h => absurd (hp.symm.trans h) nofun⟩
  · exact nofun
  · rename_i p q hp hq
    split_ifs with h1 h2 h3 h4
    · rintro ⟨⟩
      refine ⟨hp, fun x h => ?_⟩
      obtain rfl : q = x := Option.some.inj (hq.symm.trans h)
      simp only [seqNewer, decide_eq_true_eq, decide_eq_false_iff_not] at h1 ⊢
      bv_omega
    · rintro ⟨⟩
      refine ⟨hq, fun x h => ?_⟩
      obtain rfl : p = x := Option.some.inj (hp.symm.trans h)
      simpa using h1
    · exact nofun
    · rintro ⟨⟩
      refine ⟨hp, fun x h => ?_⟩
      obtain rfl : q = x := Option.some.inj (hq.symm.trans h)
      simpa [h4] using h1
    · exact nofun

/-! ### A new slot -/

/-- R15: sealing changes the check alone, over a body that does not hold it. -/
theorem fillSlot_check (q : Seq) (b : Int) (h n : Nat) (now : Stamp) (u v : Nat) :
    (fillSlot q b h n now u v).check = crc8 (fillSlot q b h n now u v).body := rfl

theorem fillSlot_money {q : Seq} {b : Int} {h n : Nat} {now : Stamp} {u v : Nat} (hl : -5000 ≤ b)
    (hr : b ≤ 999999) : (fillSlot q b h n now u v).money = b := by
  show (BitVec.ofInt 24 b).toInt = b
  rw [BitVec.toInt_ofInt]
  exact Int.bmod_eq_of_le (by norm_num; omega) (by norm_num; omega)

theorem fillSlot_writerHall {q : Seq} {b : Int} {h n : Nat} {now : Stamp} {u v : Nat} (hh : h ≤ 63) :
    (fillSlot q b h n now u v).writerHall.toNat = h := by
  show (BitVec.ofNat 8 h).toNat = h
  rw [BitVec.toNat_ofNat, Nat.mod_eq_of_lt (by omega)]

theorem fillSlot_writerSale {q : Seq} {b : Int} {h n : Nat} {now : Stamp} {u v : Nat}
    (hn : n ≤ 65535) : (fillSlot q b h n now u v).writerSale.toNat = n := by
  show (BitVec.ofNat 16 n).toNat = n
  rw [BitVec.toNat_ofNat, Nat.mod_eq_of_lt (by omega)]

/-- A slot filled with a balance in range under a hall id of at most 63 is valid (01 R6). -/
theorem fillSlot_valid {q : Seq} {b : Int} {h n : Nat} {now : Stamp} {u v : Nat} (hl : -5000 ≤ b)
    (hr : b ≤ 999999) (hh : h ≤ 63) : (fillSlot q b h n now u v).valid = true := by
  simp only [PurseSlot.valid, decide_eq_true_eq]
  exact ⟨fillSlot_check .., by rw [fillSlot_money hl hr]; exact hl,
    by rw [fillSlot_money hl hr]; exact hr, by rw [fillSlot_writerHall hh]; exact hh⟩

/-- R13 to R15: what a new slot holds. -/
theorem fillSlot_newSlot (q : Seq) (b : Int) (h n : Nat) (now : Stamp) (u v : Nat) (hu : u ≤ 65535)
    (hv : v ≤ 999999) : NewSlot q b h n now u v (fillSlot q b h n now u v) where
  sequence := rfl
  balance := rfl
  writer := ⟨rfl, rfl⟩
  stamp := ⟨rfl, rfl⟩
  allowanceUsed := by
    show (((BitVec.ofNat 16 u).toNat : Nat) : Int) = _
    rw [BitVec.toNat_ofNat, Nat.mod_eq_of_lt (by omega)]
    omega
  spendToday := by
    show (((BitVec.ofNat 21 v).toNat : Nat) : Int) = _
    rw [BitVec.toNat_ofNat, Nat.mod_eq_of_lt (by omega)]
    omega
  check := rfl

/-! ### What a card shows of a doubtful sale -/

theorem carriesMark_iff {p : PurseSlot} {hall : Option Nat} {n : Nat} : carriesMark p hall n = true ↔
    hall = some p.writerHall.toNat ∧ p.writerSale.toNat = n ∧ n ≠ 0 := by
  simp [carriesMark]

theorem showsSale_iff {hall : Option Nat} {d : SaleData} {x : Option PurseSlot} :
    showsSale hall d x = true ↔
      ∃ p, validImage x = some p ∧ p.sequence = d.expected ∧ carriesMark p hall d.sale = true := by
  unfold showsSale
  split
  next p hp => simp [hp]
  next hn => simp [hn]

/-- Test 1 of 05 R91: one of the card's slots shows the sale. -/
def CardShows (hall : Option Nat) (d : SaleData) (image : CardImage) : Prop :=
  ∃ i p, validImage (image.slotAt i) = some p ∧ p.sequence = d.expected ∧
    carriesMark p hall d.sale = true

theorem cardShows_iff {hall : Option Nat} {d : SaleData} {image : CardImage} :
    CardShows hall d image ↔ showsSale hall d image.slot0 = true ∨ showsSale hall d image.slot1 = true := by
  simp only [showsSale_iff]
  constructor
  · rintro ⟨i, hi⟩
    cases i with
    | zero => exact .inl hi
    | one => exact .inr hi
  · rintro (h | h)
    · exact ⟨.zero, h⟩
    · exact ⟨.one, h⟩

theorem doubtResult_happened {hall : Option Nat} {d : SaleData} {image : CardImage} (q : Seq)
    (h : CardShows hall d image) : doubtResult hall d image q = .happened :=
  if_pos (cardShows_iff.1 h)

/-- The rows of 05 R91 after the first, by d = (Q − E) mod 65536. -/
theorem doubtResult_unshown {hall : Option Nat} {d : SaleData} {image : CardImage} (q : Seq)
    (h : ¬ CardShows hall d image) :
    ((q - d.expected).toNat ≤ 1 ∨ (q - d.expected).toNat = 65535 →
      doubtResult hall d image q = .notHappened) ∧
    (2 ≤ (q - d.expected).toNat → (q - d.expected).toNat ≤ 32768 →
      doubtResult hall d image q = .unresolvable) ∧
    (32769 ≤ (q - d.expected).toNat → (q - d.expected).toNat ≤ 65534 →
      doubtResult hall d image q = .stale) := by
  unfold doubtResult
  rw [if_neg (fun hs => h (cardShows_iff.2 hs))]
  refine ⟨fun hk => if_pos ?_, fun h2 h3 => ?_, fun h4 h5 => ?_⟩
  · bv_omega
  · rw [if_neg (by bv_omega), if_pos]
    simp only [seqNewer, decide_eq_true_eq]
    bv_omega
  · rw [if_neg (by bv_omega), if_neg]
    simp only [seqNewer, decide_eq_true_eq]
    bv_omega

/-- The card whose current slot still stands before the write shows it as NOT_HAPPENED. -/
theorem doubtResult_before {hall : Option Nat} {d : SaleData} {image : CardImage} {slot : PurseSlot}
    {target : SlotIndex} (h : selectSlot image = .current slot target)
    (he : d.expected = slot.sequence + 1) :
    doubtResult hall d image slot.sequence = .notHappened := by
  obtain ⟨hcur, hold⟩ := selectSlot_current h
  have hnot : ¬ CardShows hall d image := by
    rintro ⟨i, p, hp, hs, -⟩
    by_cases hi : i = target
    · subst hi
      have := hold p hp
      rw [hs, he, seqNewer_next] at this
      exact absurd this nofun
    · have hi' : i = target.other := by
        revert hi
        cases i <;> cases target <;> simp [SlotIndex.other]
      subst hi'
      obtain rfl : p = slot := Option.some.inj (hp.symm.trans hcur)
      exact next_ne p.sequence (he.symm.trans hs.symm)
  refine (doubtResult_unshown slot.sequence hnot).1 (.inr ?_)
  rw [he]
  bv_omega

/-- The write order's slot once written: it is valid, current, and shows the sale. -/
theorem written_shows {h : Nat} {slot : PurseSlot} {d : SaleData} {now : Stamp} {u v : Nat}
    {image : CardImage} {i : SlotIndex} (hh : h ≤ 63) (h1 : 1 ≤ d.sale) (h2 : d.sale ≤ 65535)
    (he : d.expected = slot.sequence + 1) (hl : -5000 ≤ d.newBalance) (hr : d.newBalance ≤ 999999)
    (hi : image.slotAt i = some (fillSlot slot.sequence d.newBalance h d.sale now u v)) :
    CardShows (some h) d image := by
  refine ⟨i, _, validImage_some.2 ⟨hi, fillSlot_valid hl hr hh⟩, he.symm, carriesMark_iff.2 ?_⟩
  exact ⟨by rw [fillSlot_writerHall hh], fillSlot_writerSale h2, by omega⟩

/-- Settles O24. -/
theorem writeResolved : Obligations.WriteResolved := by
  refine ⟨?order, ?table, fillSlot_newSlot, fun p hall n => carriesMark_iff⟩
  case order =>
    intro h image slot target d now u v hh h1 h2 hsel he hl hr new written
    obtain ⟨hcur, -⟩ := selectSlot_current hsel
    have hshows : ∀ {x : CardImage}, x.slotAt target = some new → CardShows (some h) d x :=
      written_shows hh h1 h2 he hl hr
    refine ⟨⟨?_, ?_⟩, fun p q => ?_, doubtResult_before hsel he, fun p hp => ?_⟩
    · refine selectSlot_newer (p := new) (q := slot) ?_ ?_ (seqNewer_next _) (seqNewer_before _)
      · exact validImage_some.2 ⟨slotAt_withSlot .., fillSlot_valid hl hr hh⟩
      · rw [slotAt_withSlot_other]; exact hcur
    · exact doubtResult_happened _ (hshows (slotAt_withSlot ..))
    · exact doubtResult_happened _ (hshows ((slotAt_withSlot_of_other ..).trans (slotAt_withSlot ..)))
    · have hkept : selectSlot (image.withSlot target p) = .current slot target :=
        selectSlot_only (by rw [slotAt_withSlot_other]; exact hcur) (by rw [slotAt_withSlot]; exact hp)
      exact ⟨hkept, doubtResult_before hkept he⟩
  case table =>
    intro hall d image q shown k
    have hs : shown ↔ CardShows hall d image := by
      constructor
      · rintro ⟨p, hp | hp, hm⟩
        · exact ⟨.zero, p, hp, hm⟩
        · exact ⟨.one, p, hp, hm⟩
      · rintro ⟨i, p, hp, hm⟩
        cases i with
        | zero => exact ⟨p, .inl hp, hm⟩
        | one => exact ⟨p, .inr hp, hm⟩
    exact ⟨fun h => doubtResult_happened q (hs.1 h),
      fun h => doubtResult_unshown q (fun hc => h (hs.2 hc))⟩

end Sys2Proof.Machine


/-! PROOFS. What the blocks answer the host: the reading requests, the decode of a card (03 R41), the staging and
the swap of a tariff (08 R137 to R141), the journal and the totals (chapter 11), and the hall modes (12 R192,
R194). -/

namespace Sys2Proof.Machine

open Sys2Proof

/-! ### The sixteen places -/

theorem Sixteen.toList_eq {α : Type} (t : Sixteen α) : t.toList = (List.finRange 16).map t.getN := rfl

theorem Sixteen.toList_get {α : Type} (t : Sixteen α) (k : Fin 16) : t.toList[k.val]? = some (t.getN k) := by
  simp [Sixteen.toList_eq]

theorem Sixteen.mem_toList {α : Type} {t : Sixteen α} {x : α} : x ∈ t.toList ↔ ∃ k, t.getN k = x := by
  simp [Sixteen.toList_eq]

/-! ### The decode (03 R41) -/

theorem covers_iff {r : CardRange} {card : Nat} : r.covers card = true ↔ r.first ≤ card ∧ card ≤ r.last := by
  simp [CardRange.covers]

/-- The entry found is the first one that covers the card. -/
theorem firstCovering_first {card : Nat} {r : CardRange} (hr : r.covers card = true) :
    ∀ {es : List (Option CardRange)} {k : Nat} (i : Nat), es[k]? = some (some r) →
    (∀ j < k, ∀ x, es[j]? = some (some x) → ¬ x.covers card = true) →
    firstCovering card i es = some (i + k, r) := by
  intro es
  induction es with
  | nil => intro k i hk; simp at hk
  | cons e es ih =>
    intro k i hk hbefore
    cases k with
    | zero =>
      obtain rfl : e = some r := by simpa using hk
      simp [firstCovering, hr]
    | succ k =>
      have hnext := ih (i + 1) (by simpa using hk) fun j hj x hx => hbefore (j + 1) (by omega) x (by simpa using hx)
      rw [Nat.add_right_comm, Nat.add_assoc] at hnext
      cases e with
      | none => exact hnext
      | some x => rw [firstCovering, if_neg (hbefore 0 (by omega) x rfl)]; exact hnext

theorem firstCovering_none {card : Nat} {es : List (Option CardRange)}
    (h : ∀ x, some x ∈ es → ¬ x.covers card = true) (i : Nat) : firstCovering card i es = none := by
  induction es generalizing i with
  | nil => rfl
  | cons e es ih =>
    have hrest := ih (fun x hx => h x (List.mem_cons_of_mem _ hx)) (i + 1)
    cases e with
    | none => exact hrest
    | some x => rw [firstCovering, if_neg (h x List.mem_cons_self)]; exact hrest

/-- Settles O44. -/
theorem classQueryDecodes : Obligations.ClassQueryDecodes := by
  intro s tag card rest hr hi
  refine ⟨s.decoder.decode card, ?_, ?stopped, fun hstop => ⟨?covered, ?uncovered⟩⟩
  · simp only [exec, execClassQuery, hi]
    exact whenRunning_decoderTakes hr rfl
  case stopped => exact fun hstop => if_pos hstop
  case covered =>
    intro k r hk hfirst hlast hbefore
    have hfound : firstCovering card 0 s.decoder.ranges.toList = some (0 + k.val, r) := by
      refine firstCovering_first (covers_iff.2 ⟨hfirst, hlast⟩) 0 (by rw [Sixteen.toList_get, hk]) ?_
      intro j hj x hx hc
      have hget := Sixteen.toList_get s.decoder.ranges ⟨j, by omega⟩
      exact hbefore ⟨j, by omega⟩ hj x (Option.some.inj (hget.symm.trans hx)) (covers_iff.1 hc)
    simp [Decoder.decode, hstop, hfound]
  case uncovered =>
    intro hnone
    have hfound : firstCovering card 0 s.decoder.ranges.toList = none := by
      refine firstCovering_none (fun x hx hc => ?_) 0
      obtain ⟨k, hk⟩ := Sixteen.mem_toList.1 hx
      exact hnone k x hk (covers_iff.1 hc)
    cases hd : s.decoder.defaultClass <;> simp [Decoder.decode, hstop, hfound, hd]

/-! ### The reading requests -/

theorem power_of_started {s : State} (h : s.started = true) : s.hall.power = .run := by
  simp only [State.started, decide_eq_true_eq] at h
  exact h.1

theorem rangeCount_eq (d : Decoder) :
    d.rangeCount = ((List.finRange 16).filter fun n => (d.ranges.getN n).isSome).length := by
  simp [Decoder.rangeCount, Sixteen.toList_eq, List.filter_map, Function.comp_def]

theorem normalCount_eq (e : SaleEngine) :
    e.normalCount = (e.queue.filter fun w => decide (w.high = false)).length := by
  have h := List.length_eq_length_filter_add (l := e.queue) Work.high
  simp only [SaleEngine.normalCount, SaleEngine.highCount]
  rw [h, Nat.add_sub_cancel_left]
  exact congrArg List.length (List.filter_congr fun w _ => by cases w.high <;> rfl)

theorem highCount_eq (e : SaleEngine) :
    e.highCount = (e.queue.filter fun w => decide (w.high = true)).length :=
  congrArg List.length (List.filter_congr fun w _ => by cases w.high <;> rfl)

theorem staging_items_length (g : Staging) : g.items.length =
    match g with
    | .empty => 0
    | .filling set | .ready set => set.items.length := by
  cases g <;> rfl

theorem staging_name (g : Staging) : g.name =
    match g with
    | .empty => .empty
    | .filling _ => .filling
    | .ready _ => .ready := by
  cases g <;> rfl

/-- Settles O39: each command reads its own request, and the answer alone leaves the block. -/
theorem readRequestsOnlyAnswer : Obligations.ReadRequestsOnlyAnswer := by
  intro s tag rest hr
  refine ⟨fun p hi => ?_, fun hi => ?_, fun p hq => ?_, fun card hq => ?_, fun p hq => ?_, fun hq => ?_,
    fun which p hi => ?_, fun hi => ?_, fun l ref hi => ⟨fun hx => ?_, fun hx => ?_⟩, fun hi => ?_,
    fun ref hi => ?_, fun hi => ?_⟩
  · simp only [exec, execStopList, hi]
    refine whenRunning_decoderTakes hr ?_
    simp only [Decoder.stopList]
    split <;> rfl
  · simp only [exec, execRangeList, hi]
    exact whenRunning_decoderTakes hr rfl
  · simp only [exec, execQueryCredits, hq]
    exact whenRunning_running hr _
  · simp only [exec, execQueryCard, hq]
    exact whenRunning_running hr _
  · simp only [exec, execDoubtList, hq]
    exact whenRunning_running hr _
  · simp only [exec, execSaleList, hq]
    exact whenRunning_running hr _
  · simp only [exec, execTariffList, hi]
    rw [whenRunning_running hr]
    by_cases hp : 1023 < p
    · simp [State.tariffTakes, TariffUnit.list, hp]
    · cases which <;> simp [State.tariffTakes, TariffUnit.list, hp]
  · simp only [exec, execClockRead, hi]
    exact whenRunning_running hr _
  · simp only [exec, execLaneRead, hi]
    rw [whenRunning_running hr]
    cases hex : (s.lane l).exchange with
    | none => exact absurd hex hx
    | some x => rfl
  · have htaken : exec (.laneRead l) s = .next (State.reply (s.laneTaken l rest) ⟨tag, .laneRead ref⟩
        (.lane ((s.laneTaken l rest).lane l).mode ((s.laneTaken l rest).lane l).settings
          ((s.laneTaken l rest).lane l).rollPointer ((s.laneTaken l rest).lane l).lineStuck
          (((s.laneTaken l rest).lane l).stations.map StationRecord.reading))) := by
      simp only [exec, execLaneRead, hi, hx]
      exact whenRunning_running hr _
    rw [htaken]
    simp [State.laneTaken]
  · simp only [exec, execJournalFetch, hi]
    exact whenRunning_running hr _
  · cases ref <;> simp only [exec, execTotalsRead, hi] <;> exact whenRunning_running hr _
  · simp only [exec, execStatus, hi]
    rw [whenRunning_running hr, State.statusData, ← power_of_started (started_of_running hr), rangeCount_eq, highCount_eq, normalCount_eq, staging_items_length, staging_name]
    cases s.tariff.staging <;> rfl


/-! ### The hall modes (12 R192) and the two closings (12 R194) -/

theorem failures_clear_iff {s : State} : s.openFailures = ⟨false, false, false⟩ ↔
    s.hall.hallId ≠ none ∧ s.clock.isSet = true ∧ 1 ≤ s.tariff.generation := by
  cases hid : s.hall.hallId <;> simp [State.openFailures, Nat.one_le_iff_ne_zero, hid]

/-- Settles O51: the rows of R192's table. -/
theorem hallModes : Obligations.HallModes := by
  intro s tag rest hr u
  refine ⟨fun id hi => ?set, fun hi => ?opened, fun hi => ?suspended, fun hi => ?resumed⟩
  case set =>
    have hx : exec .setHall s = .next ((s.hallTaken rest).setHall ⟨tag, .setHall id⟩ id) := by
      simp only [exec, execSetHall, hi]
      exact whenRunning_running hr _
    rw [hx, State.setHall]
    refine ⟨fun h => by rw [if_pos h]; rfl, fun h hm => ?_, fun h hm => ?_⟩
    · rw [if_neg (by omega)]; exact congrArg _ (if_pos hm)
    · rw [if_neg (by omega)]; exact congrArg _ (if_neg (not_not.2 hm))
  case opened =>
    have hx : exec .openHall s = .next ((s.hallTaken rest).openHall ⟨tag, .openHall⟩) := by
      simp only [exec, execOpenHall, hi]
      exact whenRunning_running hr _
    have hclear : (s.hallTaken rest).openFailures = ⟨false, false, false⟩ ↔ _ := failures_clear_iff (s := s)
    rw [hx, State.openHall]
    refine ⟨fun hm h1 h2 h3 => ?_, fun h => ?_⟩
    · exact congrArg _ (if_pos ⟨hm, hclear.2 ⟨h1, h2, h3⟩⟩)
    · refine congrArg _ (if_neg ?_)
      rintro ⟨hm, hf⟩
      obtain ⟨h1, h2, h3⟩ := hclear.1 hf
      rcases h with h | h | h | h
      · exact h hm
      · exact h1 h
      · exact absurd (h2.symm.trans h) nofun
      · omega
  case suspended =>
    simp only [exec, execSuspend, hi]
    rw [whenRunning_running hr]
    rfl
  case resumed =>
    simp only [exec, execResume, hi]
    rw [whenRunning_running hr]
    rfl

theorem othersOutstanding_iff {o : OfficeLink} {tag : Byte} :
    o.othersOutstanding tag = true ↔ ∃ e ∈ o.tags, e.tag ≠ tag := by
  simp [OfficeLink.othersOutstanding]

/-- Settles O52: R194's tests in order. -/
theorem hallClosing : Obligations.HallClosing := by
  intro s tag rest hr u
  refine ⟨fun hi => ?soft, fun id hi => ?clear⟩
  case soft =>
    simp only [exec, execSoftReset, hi]
    exact whenRunning_running hr _
  case clear =>
    have hx : exec .clearAll s = .next ((s.hallTaken rest).clearAll ⟨tag, .clearAll id⟩ id) := by
      simp only [exec, execClearAll, hi]
      exact whenRunning_running hr _
    rw [hx, State.clearAll]
    refine ⟨fun hm => congrArg _ (if_pos hm), fun hm hid => ?_, fun hm hid hother => ?_,
      fun hm hid halone => ?_⟩
    · exact congrArg _ ((if_neg hm).trans (if_pos hid))
    · exact congrArg _ ((if_neg hm).trans ((if_neg (not_not.2 hid)).trans
        (if_pos (othersOutstanding_iff.2 hother))))
    · refine congrArg _ ((if_neg hm).trans ((if_neg (not_not.2 hid)).trans (if_neg fun ho => ?_)))
      obtain ⟨e, he, hne⟩ := othersOutstanding_iff.1 ho
      exact hne (halone e he)

/-! ### The swap of a tariff (08 R141) -/

theorem swap_ready {s : State} {set : TariffSet} (h : s.tariff.staging = .ready set) (cause : SwapCause) :
    s.swap cause = { s with tariff := { s.tariff with
        active := set, staging := .empty, generation := nextGeneration s.tariff.generation } }.queueReport
      (.tariffSwapped s.tariff.generation (nextGeneration s.tariff.generation) set.items.length cause
        s.time) := by
  simp only [State.swap, h]

theorem swap_other {s : State} (h : ∀ set, s.tariff.staging ≠ .ready set) (cause : SwapCause) :
    s.swap cause = s := by
  unfold State.swap
  split
  next set hs => exact absurd hs (h set)
  next => rfl

theorem nextGeneration_eq {g : Nat} (h : g ≤ 65535) :
    nextGeneration g = if g = 65535 then 1 else g + 1 := by
  unfold nextGeneration
  split_ifs <;> omega

/-- Settles O46. -/
theorem tariffSwap : Obligations.TariffSwap := by
  intro s next hg
  have hnext : nextGeneration s.tariff.generation = next := nextGeneration_eq hg
  refine ⟨fun tag rest set hr hi hs => ?_, fun tag rest hr hi hs => ?_, fun e events set hst hb hs => ?_,
    fun e events hst hb hs => ?_⟩
  · simp only [exec, execTariffSwapNow, hi, hs]
    refine (whenRunning_running hr _).trans ?_
    rw [swap_ready rfl]
    exact hnext ▸ rfl
  · cases hc : s.tariff.staging with
    | ready set => exact absurd hc (hs set)
    | empty =>
      simp only [exec, execTariffSwapNow, hi, hc]
      exact whenRunning_running hr _
    | filling set =>
      simp only [exec, execTariffSwapNow, hi, hc]
      exact whenRunning_running hr _
  · simp only [exec, execTariffBoundarySwap, hb]
    refine (whenStarted_started hst _).trans (congrArg _ ((swap_ready (by exact hs) _).trans ?_))
    exact hnext ▸ rfl
  · simp only [exec, execTariffBoundarySwap, hb]
    exact (whenStarted_started hst _).trans (congrArg _ (swap_other (by exact hs) _))


/-! ### The first entry that offends -/

/-- The number of the first entry of which `p` holds, the entries counted from `n`. -/
def firstFrom {α : Type} (p : Nat → α → Bool) : Nat → List α → Option Nat
  | _, [] => none
  | n, x :: xs => if p n x then some n else firstFrom p (n + 1) xs

theorem firstFrom_some {α : Type} {p : Nat → α → Bool} {n m : Nat} {l : List α}
    (h : firstFrom p n l = some m) :
    ∃ i, m = n + i ∧ (∃ x, l[i]? = some x ∧ p (n + i) x = true) ∧
      ∀ j < i, ∀ x, l[j]? = some x → ¬ p (n + j) x = true := by
  induction l generalizing n with
  | nil => exact absurd h nofun
  | cons y ys ih =>
    rw [firstFrom] at h
    split at h
    next hp => exact ⟨0, (Option.some.inj h).symm, ⟨y, rfl, hp⟩, fun j hj => absurd hj (by omega)⟩
    next hp =>
      obtain ⟨i, hm, ⟨x, hx, hpx⟩, hbefore⟩ := ih h
      refine ⟨i + 1, by omega, ⟨x, by simpa using hx, by rwa [← Nat.add_right_comm, Nat.add_assoc] at hpx⟩, ?_⟩
      intro j hj z hz
      cases j with
      | zero => obtain rfl : y = z := by simpa using hz
                exact hp
      | succ j =>
        have := hbefore j (by omega) z (by simpa using hz)
        rwa [Nat.add_right_comm, Nat.add_assoc] at this

theorem firstFrom_none {α : Type} {p : Nat → α → Bool} {n : Nat} {l : List α} :
    firstFrom p n l = none ↔ ∀ i x, l[i]? = some x → ¬ p (n + i) x = true := by
  induction l generalizing n with
  | nil => simp [firstFrom]
  | cons y ys ih =>
    rw [firstFrom]
    split
    next hp => exact ⟨nofun, fun h => absurd hp (h 0 y rfl)⟩
    next hp =>
      rw [ih]
      constructor
      · intro h i x hx
        cases i with
        | zero => obtain rfl : y = x := by simpa using hx
                  exact hp
        | succ i =>
          have := h i x (by simpa using hx)
          rwa [Nat.add_right_comm, Nat.add_assoc] at this
      · intro h i x hx
        have := h (i + 1) x (by simpa using hx)
        rwa [← Nat.add_assoc, Nat.add_right_comm] at this

/-- Where an entry offends, the number found is that of the first one. -/
theorem firstFrom_first {α : Type} {p : Nat → α → Bool} {n : Nat} {l : List α} {Q : Nat → Prop}
    (hQ : ∀ i, Q i ↔ ∃ x, l[i]? = some x ∧ p (n + i) x = true) (h : ∃ i, Q i) :
    ∃ i, FirstIndex Q i ∧ firstFrom p n l = some (n + i) := by
  cases hf : firstFrom p n l with
  | none =>
    obtain ⟨i, hi⟩ := h
    obtain ⟨x, hx, hp⟩ := (hQ i).1 hi
    exact absurd hp (firstFrom_none.1 hf i x hx)
  | some m =>
    obtain ⟨i, rfl, hi, hbefore⟩ := firstFrom_some hf
    refine ⟨i, ⟨(hQ i).2 hi, fun j hj hq => ?_⟩, rfl⟩
    obtain ⟨x, hx, hp⟩ := (hQ j).1 hq
    exact hbefore j hj x hx hp

/-! ### The staging of a tariff (08 R137 to R140) -/

theorem offendingItem_eq (n : Nat) (items : List PriceItem) :
    offendingItem n items = firstFrom (fun k i => decide (40 < k) || !itemOk i) n items := by
  induction items generalizing n with
  | nil => rfl
  | cons i is ih => simp [offendingItem, firstFrom, ih]

theorem itemOk_iff {i : PriceItem} : itemOk i = true ↔
    1 ≤ i.code ∧ i.code ≤ 9999 ∧ i.price ≤ 99999 ∧ ∃ p, i.mask.get p = true := by
  simp [itemOk, Eight.mem_toList]

theorem itemOffends_iff {items : List PriceItem} {i : Nat} : ItemOffends items i ↔
    ∃ x, items[i]? = some x ∧ (decide (40 < 1 + i) || !itemOk x) = true := by
  refine exists_congr fun x => and_congr_right fun _ => ?_
  have hok : itemOk x = false ↔ ¬ (1 ≤ x.code ∧ x.code ≤ 9999) ∨ 99999 < x.price ∨
      ∀ p, x.mask.get p = false := by
    rw [← Bool.not_eq_true, itemOk_iff]
    constructor
    · intro h
      by_contra hc
      simp only [not_or, not_not, not_lt, not_forall, Bool.not_eq_false] at hc
      exact h ⟨hc.1.1, hc.1.2, hc.2.1, hc.2.2⟩
    · rintro (h | h | h) ⟨h1, h2, h3, p, hp⟩
      · exact h ⟨h1, h2⟩
      · omega
      · exact absurd (hp.symm.trans (h p)) nofun
  simp only [Bool.or_eq_true, decide_eq_true_eq, Bool.not_eq_true', hok]
  exact or_congr (by omega) Iff.rfl

theorem offendingItem_none {items : List PriceItem} (hlen : items.length ≤ 40)
    (hok : ∀ i ∈ items, itemOk i = true) : offendingItem 1 items = none := by
  rw [offendingItem_eq, firstFrom_none]
  intro i x hx
  obtain ⟨hi, -⟩ := List.getElem?_eq_some_iff.1 hx
  simp only [hok x (List.mem_of_getElem? hx), Bool.not_true, Bool.or_false, decide_eq_true_eq]
  omega

theorem exists_itemOffends {items : List PriceItem}
    (h : 40 < items.length ∨ ∃ i ∈ items, itemOk i = false) : ∃ i, ItemOffends items i := by
  simp only [itemOffends_iff]
  rcases h with h | ⟨x, hx, hbad⟩
  · exact ⟨40, items[40], List.getElem?_eq_getElem h, by simp⟩
  · obtain ⟨i, hi⟩ := List.mem_iff_getElem?.1 hx
    exact ⟨i, x, hi, by simp [hbad]⟩

/-- R138: an item takes its place in code order. -/
theorem putItem_ascending {i : PriceItem} {l : List PriceItem} (h : l.Pairwise (·.code < ·.code)) :
    (putItem i l).Pairwise (·.code < ·.code) ∧ ∀ k ∈ putItem i l, k = i ∨ k ∈ l := by
  induction l with
  | nil => simp [putItem]
  | cons j js ih =>
    obtain ⟨hj, hjs⟩ := List.pairwise_cons.1 h
    obtain ⟨ih1, ih2⟩ := ih hjs
    rw [putItem]
    split_ifs with h1 h2
    · refine ⟨List.pairwise_cons.2 ⟨fun k hk => ?_, h⟩, fun k hk => by simpa using hk⟩
      rcases List.mem_cons.1 hk with rfl | hk
      · exact h1
      · exact lt_trans h1 (hj k hk)
    · exact ⟨List.pairwise_cons.2 ⟨fun k hk => h2 ▸ hj k hk, hjs⟩,
        fun k hk => (List.mem_cons.1 hk).imp_right (List.mem_cons_of_mem _)⟩
    · refine ⟨List.pairwise_cons.2 ⟨fun k hk => ?_, ih1⟩, fun k hk => ?_⟩
      · rcases ih2 k hk with rfl | hk
        · omega
        · exact hj k hk
      · rcases List.mem_cons.1 hk with rfl | hk
        · exact .inr List.mem_cons_self
        · exact (ih2 k hk).imp_right (List.mem_cons_of_mem _)

/-- R138: the item replaces the one of its code, and the others stay. -/
theorem find_putItem (i : PriceItem) (l : List PriceItem) (c : Nat) :
    (putItem i l).find? (fun x => x.code = c) =
      if i.code = c then some i else l.find? (fun x => x.code = c) := by
  induction l with
  | nil => by_cases hc : i.code = c <;> simp [putItem, hc]
  | cons j js ih =>
    rw [putItem]
    split_ifs with h1 h2 <;> grind

theorem putItems_ascending (items : List PriceItem) {l : List PriceItem}
    (h : l.Pairwise (·.code < ·.code)) :
    (putItems l items).Pairwise (·.code < ·.code) ∧ ∀ k ∈ putItems l items, k ∈ items ∨ k ∈ l := by
  induction items generalizing l with
  | nil => exact ⟨h, fun k hk => .inr hk⟩
  | cons i is ih =>
    obtain ⟨hput, hmem⟩ := putItem_ascending (i := i) h
    obtain ⟨ih1, ih2⟩ := ih hput
    refine ⟨ih1, fun k hk => ?_⟩
    rcases ih2 k hk with hk | hk
    · exact .inl (List.mem_cons_of_mem _ hk)
    · rcases hmem k hk with rfl | hk
      · exact .inl List.mem_cons_self
      · exact .inr hk

/-- R138: of the items of one code the last one listed stands. -/
theorem find_putItems (l items : List PriceItem) (c : Nat) :
    (putItems l items).find? (fun x => x.code = c) =
      (items.reverse.find? fun x => x.code = c).or (l.find? fun x => x.code = c) := by
  induction items generalizing l with
  | nil => rfl
  | cons i is ih =>
    have hstep : putItems l (i :: is) = putItems (putItem i l) is := rfl
    rw [hstep, ih, find_putItem, List.reverse_cons, List.find?_append, Option.or_assoc]
    by_cases hc : i.code = c <;> simp [hc]

section Staging

variable {s : State} {tag : Byte} {rest : List Handed} {u : TariffUnit} {r : HostReply}

theorem whenRunning_tariffTakes {h : Handed} {f : TariffUnit → TariffUnit × HostReply}
    (hr : s.running = true) (hf : f { s.tariff with inbox := rest } = (u, r)) :
    whenRunning s (s.tariffTakes h rest f) = .next ({ s with tariff := u }.reply h r) := by
  rw [whenRunning_running hr, State.tariffTakes, hf]

theorem exec_tariffItems {items : List PriceItem} (hr : s.running = true)
    (hi : s.tariff.inbox = ⟨tag, .tariffItems items⟩ :: rest)
    (hu : TariffUnit.takeItems { s.tariff with inbox := rest } items = (u, r)) :
    exec .tariffItems s = .next ({ s with tariff := u }.reply ⟨tag, .tariffItems items⟩ r) := by
  simp only [exec, execTariffItems, hi]
  exact whenRunning_tariffTakes hr hu

theorem exec_tariffGroup {g : Nat} {f : GroupFigures} (hr : s.running = true)
    (hi : s.tariff.inbox = ⟨tag, .tariffGroup g f⟩ :: rest)
    (hu : TariffUnit.takeGroup { s.tariff with inbox := rest } g f = (u, r)) :
    exec .tariffGroup s = .next ({ s with tariff := u }.reply ⟨tag, .tariffGroup g f⟩ r) := by
  simp only [exec, execTariffGroup, hi]
  exact whenRunning_tariffTakes hr hu

theorem exec_tariffEnd {n : Nat} (hr : s.running = true)
    (hi : s.tariff.inbox = ⟨tag, .tariffEnd n⟩ :: rest)
    (hu : TariffUnit.finish { s.tariff with inbox := rest } n = (u, r)) :
    exec .tariffEnd s = .next ({ s with tariff := u }.reply ⟨tag, .tariffEnd n⟩ r) := by
  simp only [exec, execTariffEnd, hi]
  exact whenRunning_tariffTakes hr hu

end Staging

theorem takeItems_bad {t : TariffUnit} {items : List PriceItem} {o : Option Nat}
    (ho : offendingItem 1 items = o) (h : items = [] ∨ o ≠ none) :
    t.takeItems items = (t, .badItem o) := by
  subst ho
  exact if_pos h

/-- R138, a request within its limits outside FILLING. -/
theorem takeItems_unstaged {t : TariffUnit} {items : List PriceItem} (hne : items ≠ [])
    (ho : offendingItem 1 items = none) (h : ∀ set, t.staging ≠ .filling set) :
    t.takeItems items = (t, .wrongStaging t.staging.name) := by
  rw [TariffUnit.takeItems, if_neg (by simp [hne, ho])]
  cases hs : t.staging with
  | filling set => exact absurd hs (h set)
  | empty => rfl
  | ready set => rfl

/-- R138, a request within its limits in FILLING. -/
theorem takeItems_staged {t : TariffUnit} {items : List PriceItem} {set : TariffSet} (hne : items ≠ [])
    (ho : offendingItem 1 items = none) (h : t.staging = .filling set) :
    t.takeItems items =
      if 1024 < (putItems set.items items).length then (t, .stagedFull set.items.length)
      else ({ t with staging := .filling { set with items := putItems set.items items } },
        .itemsTaken (replacedCount set.items items) (putItems set.items items).length) := by
  rw [TariffUnit.takeItems, if_neg (by simp [hne, ho])]
  simp only [h]

/-- Settles O45: each request of the staging, row by row. -/
theorem tariffStaging : Obligations.TariffStaging := by
  intro s tag rest hr
  refine ⟨fun hi => ?start, fun items hi => ?items, fun g f hi => ?group, fun n hi => ?finish⟩
  case start =>
    simp only [exec, execTariffBegin, hi]
    exact whenRunning_tariffTakes hr rfl
  case items =>
    refine ⟨fun hne => ?_, fun hbad => ?_, fun hne hlen hok hs => ?_, fun set hs hasc hne hlen hok => ?_⟩
    · exact exec_tariffItems hr hi (takeItems_bad (by rw [hne]; rfl) (.inl hne))
    · obtain ⟨i, hfirst, hoff⟩ := firstFrom_first
        (p := fun k i => decide (40 < k) || !itemOk i) (n := 1) (fun _ => itemOffends_iff)
        (exists_itemOffends hbad)
      refine ⟨i, hfirst, exec_tariffItems hr hi (takeItems_bad ?_ (.inr nofun))⟩
      rw [offendingItem_eq, hoff, Nat.add_comm]
    · exact exec_tariffItems hr hi (takeItems_unstaged hne (offendingItem_none hlen hok) hs)
    · have htaken := takeItems_staged (t := { s.tariff with inbox := rest }) hne
        (offendingItem_none hlen hok) hs
      refine ⟨putItems set.items items, List.pairwise_map.2
        (putItems_ascending items (List.pairwise_map.1 hasc)).1, fun code i => by rw [find_putItems],
        fun hfull => ?_, fun hroom => ?_⟩
      · exact exec_tariffItems hr hi (htaken.trans (if_pos hfull))
      · exact exec_tariffItems hr hi (htaken.trans (if_neg (by omega)))
  case group =>
    refine ⟨fun hg => ?_, fun hg hs => ?_, fun k set hk hs => ?_⟩
    · exact exec_tariffGroup hr hi (if_pos hg)
    · refine exec_tariffGroup hr hi ?_
      rw [TariffUnit.takeGroup, if_neg (by omega)]
      cases hc : s.tariff.staging with
      | filling set => exact absurd hc (hs set)
      | empty => rfl
      | ready set => rfl
    · refine ⟨{ set with groups := set.groups.set k f.clamped }, f.clamped,
        exec_tariffGroup hr hi ?_, rfl, Eight.get_set_self .., fun j hj => Eight.get_set_other _ hj _,
        fun p => ⟨by simp [GroupFigures.clamped], by simp [GroupFigures.clamped]⟩, rfl, rfl⟩
      subst hk
      rw [TariffUnit.takeGroup, if_neg (by omega)]
      simp only [hs, Fin.ofNat_val_eq_self]
  case finish =>
    refine ⟨fun hs => ?_, fun set hs => ⟨fun hn => ?_, fun hn => ?_⟩⟩
    · refine exec_tariffEnd hr hi ?_
      cases hc : s.tariff.staging with
      | filling set => exact absurd hc (hs set)
      | empty => simp only [TariffUnit.finish, hc]
      | ready set => simp only [TariffUnit.finish, hc]
    · exact exec_tariffEnd hr hi (by simp only [TariffUnit.finish, hs, if_neg hn])
    · exact exec_tariffEnd hr hi (by simp only [TariffUnit.finish, hs, if_pos hn])

end Sys2Proof.Machine


/-! PROOFS. The Hall Clock (08 R128 to R134), and the Journal and Totals unit's own requests (11 R181 to R186). -/

namespace Sys2Proof.Machine

open Sys2Proof

/-! ### The recomputation of the period (08 R133, R134) -/

/-- The boundary events that a recomputation raises: one, where the stamp changes. -/
def State.raised (s : State) (cause : BoundaryCause) : List BoundaryEvent :=
  if s.clock.recomputed.stamp = s.clock.stamp then []
  else [⟨s.clock.stamp, s.clock.recomputed.stamp, s.clock.recomputed.kind, cause, s.time⟩]

theorem stampMoves_iff (c : HallClock) : c.stampMoves = true ↔ c.recomputed.stamp ≠ c.stamp := by
  simp only [HallClock.stampMoves, decide_eq_true_eq]
  exact ne_comm

theorem recompute_eq (s : State) (cause : BoundaryCause) : s.recompute cause =
    { s with
      clock := s.clock.recomputed
      tariff := { s.tariff with boundary := s.tariff.boundary ++ s.raised cause }
      totals := { s.totals with boundary := s.totals.boundary ++ s.raised cause } } := by
  rw [State.recompute, State.raised]
  by_cases h : s.clock.recomputed.stamp = s.clock.stamp
  · have hm : s.clock.stampMoves = false := by
      rw [← Bool.not_eq_true, stampMoves_iff]; exact not_not.2 h
    simp [h, hm]
  · have hm : s.clock.stampMoves = true := (stampMoves_iff _).2 h
    simp [h, hm]

/-! ### The current period (08 R130) -/

theorem lastStarted_unstarted {m : Nat} {es : List PeriodEntry} (h : ∀ x ∈ es, m < x.start)
    (i : Nat) (found : Option Nat) : lastStarted m i found es = found := by
  induction es generalizing i found with
  | nil => rfl
  | cons e es ih =>
    rw [lastStarted, if_neg (Nat.not_le.2 (h e List.mem_cons_self))]
    exact ih (fun x hx => h x (List.mem_cons_of_mem _ hx)) _ _

theorem lastStarted_last {m : Nat} {es : List PeriodEntry} {k : Nat} {e : PeriodEntry}
    (hk : es[k]? = some e) (he : e.start ≤ m) (hafter : ∀ j x, k < j → es[j]? = some x → m < x.start)
    (i : Nat) (found : Option Nat) : lastStarted m i found es = some (i + k) := by
  induction es generalizing i found k with
  | nil => simp at hk
  | cons y ys ih =>
    cases k with
    | zero =>
      obtain rfl : y = e := by simpa using hk
      rw [lastStarted, if_pos he, lastStarted_unstarted, Nat.add_zero]
      intro x hx
      obtain ⟨j, hj⟩ := List.mem_iff_getElem?.1 hx
      exact hafter (j + 1) x (by omega) (by simpa using hj)
    | succ k =>
      rw [lastStarted, ih (by simpa using hk)
        (fun j x hj hx => hafter (j + 1) x (by omega) (by simpa using hx)), Nat.add_right_comm,
        Nat.add_assoc]

/-- R130, a minute at which an entry has started. -/
theorem current_started {schedule : List PeriodEntry} {m i : Nat} {e : PeriodEntry}
    (hi : schedule[i]? = some e) (he : e.start ≤ m)
    (hafter : ∀ j x, i < j → schedule[j]? = some x → m < x.start) :
    currentIndex schedule m = i ∧ currentKind schedule m = e.kind := by
  have hindex : currentIndex schedule m = i := by
    rw [currentIndex, lastStarted_last hi he hafter, Nat.zero_add]; rfl
  exact ⟨hindex, by rw [currentKind, hindex, hi]; rfl⟩

/-- R130, a minute before every entry's start. -/
theorem current_unstarted {schedule : List PeriodEntry} {m : Nat} {e : PeriodEntry}
    (he : schedule.getLast? = some e) (hall : ∀ x ∈ schedule, m < x.start) :
    currentIndex schedule m = schedule.length - 1 ∧ currentKind schedule m = e.kind := by
  have hindex : currentIndex schedule m = schedule.length - 1 := by
    rw [currentIndex, lastStarted_unstarted hall]; rfl
  refine ⟨hindex, ?_⟩
  rw [currentKind, hindex, ← List.getLast?_eq_getElem?, he]
  rfl

/-! ### Counting (08 R128) -/

/-- The timers of the contexts have run one second (04 R74). -/
def State.secondOn (s : State) : State :=
  { s with sale := { s.sale with contexts := s.sale.contexts.map Context.second } }

theorem runTimers_eq (s : State) : s.runTimers = if s.started = true then s.secondOn else s := rfl

theorem minuteAdvanced_eq {c : HallClock} (hm : c.minute ≤ 1439) :
    c.minuteAdvanced = { c with
      second := 0
      minute := if c.minute = 1439 then 0 else c.minute + 1
      day := if c.minute = 1439 ∧ c.day < 65535 then c.day + 1 else c.day } := by
  rw [HallClock.minuteAdvanced]
  by_cases h : c.minute < 1439
  · have h' : c.minute ≠ 1439 := by omega
    simp [h, h']
  · have h' : c.minute = 1439 := by omega
    simp [h']

/-- Settles O47: the second below 59, the second after it, and an unset clock. -/
theorem clockCounts : Obligations.ClockCounts := by
  intro s ticked
  have hticked : ticked = s.secondOn := by
    have hctx : ticked.sale.contexts = s.sale.contexts.map Context.second :=
      List.map_congr_left fun ⟨_, _, _, st⟩ _ => by cases st <;> rfl
    exact congrArg (fun cs => { s with sale := { s.sale with contexts := cs } }) hctx
  refine ⟨?second, ?minute, fun hset => ⟨?_, ?_⟩⟩
  case second =>
    intro hset hsec
    simp only [exec, execSecondsCountAdvance, hset, hsec, if_true, reduceCtorEq, if_false, runTimers_eq]
    by_cases hst : s.started = true
    · rw [if_pos hst, hticked]
      exact congrArg _ (if_pos (by exact hst))
    · rw [if_neg hst]
      exact congrArg _ (if_neg (by exact hst))
  case minute =>
    intro hset hsec hmin hday day minute stamp kind cause events
    have hadv : s.clock.minuteAdvanced = { s.clock with second := 0, minute := minute, day := day } :=
      minuteAdvanced_eq hmin
    have hcause : s.clock.advanceCause = cause := by
      rw [HallClock.advanceCause, hadv]
    have hguard : s.clock.isSet = true ∧ 59 ≤ s.clock.second := ⟨hset, hsec.ge⟩
    simp only [exec, execMinuteAdvance, if_pos hguard, hcause, hadv]
    refine ⟨fun hst => ?_, fun hst => ?_⟩
    · rw [if_pos hst, runTimers_eq, hticked]
      exact congrArg _ ((congrArg (State.recompute · cause) (if_pos (by exact hst))).trans
        (recompute_eq _ cause))
    · rw [if_neg (by simp [hst])]
  · simp only [exec, execSecondsCountAdvance, hset, if_true, hticked, runTimers_eq]
  · simp [exec, execMinuteAdvance, hset]

/-! ### SET_CLOCK and SET_PERIODS (08 R129 to R131) -/

/-- The start minute of the entry before index `n`. -/
def startBefore (whole : List AskedPeriod) (n : Nat) : Option Nat :=
  if n = 0 then none else whole[n - 1]?.map (·.start)

/-- R131's test of the entry at index `n` of `whole`. -/
def periodOffence (whole : List AskedPeriod) (n : Nat) (e : AskedPeriod) : Bool :=
  decide (7 < n ∨ 1439 < e.start ∨ (∃ b ∈ startBefore whole n, e.start ≤ b) ∨ e.kind = none)

theorem startBefore_append (before es : List AskedPeriod) :
    startBefore (before ++ es) before.length = before.getLast?.map (·.start) := by
  rcases List.eq_nil_or_concat before with rfl | ⟨init, y, rfl⟩ <;> simp [startBefore]

theorem offendingPeriod_eq (es before : List AskedPeriod) :
    offendingPeriod before.length (before.getLast?.map (·.start)) es =
      firstFrom (periodOffence (before ++ es)) before.length es := by
  induction es generalizing before with
  | nil => rfl
  | cons e es ih =>
    have hnext := ih (before ++ [e])
    simp only [List.length_append, List.length_singleton, List.getLast?_concat, Option.map_some,
      List.append_assoc, List.singleton_append] at hnext
    rw [offendingPeriod, firstFrom, hnext, periodOffence, startBefore_append]
    simp only [decide_eq_true_eq]

theorem periodOffends_iff {asked : List AskedPeriod} {i : Nat} : PeriodOffends asked i ↔
    ∃ e, asked[i]? = some e ∧ periodOffence asked (0 + i) e = true := by
  refine exists_congr fun e => and_congr_right fun _ => ?_
  have hbefore : (∃ b ∈ startBefore asked i, e.start ≤ b) ↔
      ∃ b, asked[i - 1]? = some b ∧ 0 < i ∧ e.start ≤ b.start := by
    by_cases hi : i = 0
    · simp [startBefore, hi]
    · simp [startBefore, hi, Nat.pos_of_ne_zero hi]
  simp only [periodOffence, Nat.zero_add, decide_eq_true_eq, hbefore]
  exact or_congr Nat.lt_iff_add_one_le.symm (or_congr Iff.rfl or_comm)

theorem offendingPeriod_whole (asked : List AskedPeriod) :
    offendingPeriod 0 none asked = firstFrom (periodOffence asked) 0 asked :=
  offendingPeriod_eq asked []

/-- A schedule is within R131's limits exactly when none of its entries offends. -/
theorem exists_periodOffends_iff {entries : List PeriodEntry} :
    (∃ i, PeriodOffends (entries.map PeriodEntry.asked) i) ↔
      8 < entries.length ∨ (∃ e ∈ entries, 1439 < e.start) ∨
        ¬ (entries.map (·.start)).Pairwise (· < ·) := by
  rw [List.pairwise_map, ← List.isChain_iff_pairwise, List.isChain_iff_getElem]
  constructor
  · rintro ⟨i, x, hx, hoff⟩
    obtain ⟨e, he, rfl⟩ : ∃ e, entries[i]? = some e ∧ e.asked = x := by simpa using hx
    obtain ⟨hi, rfl⟩ := List.getElem?_eq_some_iff.1 he
    rcases hoff with h | h | h | ⟨b, hb, hpos, hle⟩
    · exact .inl (by omega)
    · exact .inr (.inl ⟨_, List.getElem_mem hi, h⟩)
    · exact absurd h nofun
    · obtain ⟨y, hy, rfl⟩ : ∃ y, entries[i - 1]? = some y ∧ y.asked = b := by simpa using hb
      obtain ⟨hi', rfl⟩ := List.getElem?_eq_some_iff.1 hy
      refine .inr (.inr fun hchain => ?_)
      have hlt := hchain (i - 1) (by omega)
      simp only [Nat.sub_add_cancel hpos] at hlt
      exact absurd hle (by simpa [PeriodEntry.asked] using hlt)
  · rintro (h | ⟨e, he, h⟩ | h)
    · exact ⟨8, entries[8].asked, by simp [List.getElem?_eq_getElem h], .inl le_rfl⟩
    · obtain ⟨i, hi⟩ := List.mem_iff_getElem?.1 he
      exact ⟨i, e.asked, by simp [hi], .inr (.inl h)⟩
    · simp only [not_forall, not_lt] at h
      obtain ⟨i, hi, hle⟩ := h
      refine ⟨i + 1, entries[i + 1].asked, by simp [List.getElem?_eq_getElem hi], .inr (.inr (.inr ⟨entries[i].asked, ?_, by omega, hle⟩))⟩
      rw [Nat.add_sub_cancel, List.getElem?_map, List.getElem?_eq_getElem (by omega)]
      rfl

theorem scheduleOf_asked (entries : List PeriodEntry) :
    scheduleOf (entries.map PeriodEntry.asked) = entries := by
  simp [scheduleOf, List.filterMap_map, Function.comp_def, PeriodEntry.asked]

theorem setClock_taken {s : State} {h : Handed} {day minute : Nat} (hmin : minute ≤ 1439)
    (hd : s.clock.day ≤ day) {c : HallClock} {u : State}
    (hc : c = { s.clock with isSet := true, day := day, minute := minute, second := 0 })
    (hu : State.recompute { s with clock := c } .setClock = u) {m : Bool} (hm : c.stampMoves = m) :
    s.setClock h day minute = u.reply h
      (.clockSet s.clock.day s.clock.minute day minute u.clock.stamp u.clock.kind m) := by
  subst hc hu hm
  exact (if_neg (by omega)).trans (if_neg (Nat.not_lt.2 hd))

theorem setPeriods_taken {s : State} {h : Handed} {asked : List AskedPeriod} (hne : asked ≠ [])
    (hno : offendingPeriod 0 none asked = none) {entries : List PeriodEntry}
    (hs : scheduleOf asked = entries) {c : HallClock} {u : State}
    (hc : c = { s.clock with schedule := entries })
    (hu : State.recompute { s with clock := c } .setPeriods = u) {m : Bool} (hm : c.stampMoves = m) :
    s.setPeriods h asked = u.reply h
      (.periodsSet s.clock.schedule u.clock.stamp u.clock.kind m) := by
  subst hs hc hu hm
  exact if_neg (by simp [hne, hno])

/-- Settles O48: the current period, then each request's refusals and what it leaves when it is taken. -/
theorem clockRequests : Obligations.ClockRequests := by
  refine ⟨fun schedule m => ⟨fun i e hi he hafter => current_started hi he hafter,
    fun e he hall => current_unstarted he hall⟩, ?_⟩
  intro s tag rest hr recomputedBy
  have hrecomputed : ∀ (c : HallClock) (cause : BoundaryCause), c.stamp = s.clock.stamp →
      State.recompute { s with clock := { c with inbox := rest } } cause = recomputedBy c cause ∧
      HallClock.stampMoves { c with inbox := rest } =
        decide ((recomputedBy c cause).clock.stamp ≠ s.clock.stamp) := by
    intro c cause hc
    constructor
    · rw [recompute_eq, State.raised]
      simp only [HallClock.recomputed, hc]
      rfl
    · exact Bool.eq_iff_iff.2 ((stampMoves_iff _).trans (by rw [decide_eq_true_eq, ← hc]; rfl))
  refine ⟨fun day minute hi => ?clock, ?refused, ?taken⟩
  case clock =>
    have hx : exec .setClock s = .next ((s.clockTaken rest).setClock ⟨tag, .setClock day minute⟩ day minute) := by
      simp only [exec, execSetClock, hi]
      exact whenRunning_running hr _
    rw [hx]
    refine ⟨fun h => congrArg _ (if_pos h), fun h hd => ?_, fun h hd => congrArg _ ?_⟩
    · exact congrArg _ ((if_neg (by omega)).trans (if_pos hd))
    · obtain ⟨hrec, hmoves⟩ :=
        hrecomputed { s.clock with isSet := true, day := day, minute := minute, second := 0 } .setClock rfl
      exact setClock_taken (s := s.clockTaken rest) h hd rfl hrec hmoves
  case refused =>
    intro asked hi answer
    have hx : exec .setPeriods s = .next ((s.clockTaken rest).setPeriods ⟨tag, .setPeriods asked⟩ asked) := by
      simp only [exec, execSetPeriods, hi]
      exact whenRunning_running hr _
    rw [hx, State.setPeriods]
    refine ⟨fun h => ?_, fun h => ?_⟩
    · rw [if_pos (.inl h), h]; rfl
    · obtain ⟨k, hk, hoff⟩ := firstFrom_first (p := periodOffence asked) (n := 0)
        (fun _ => periodOffends_iff) h
      rw [Nat.zero_add, ← offendingPeriod_whole] at hoff
      exact ⟨k, hk, by rw [if_pos (.inr (by rw [hoff]; exact nofun)), hoff]; rfl⟩
  case taken =>
    intro entries asked hi
    refine ⟨exists_periodOffends_iff.2, fun hne hlen hstart hrise => ?_⟩
    have hx : exec .setPeriods s = .next ((s.clockTaken rest).setPeriods ⟨tag, .setPeriods asked⟩ asked) := by
      simp only [exec, execSetPeriods, hi]
      exact whenRunning_running hr _
    have hnone : offendingPeriod 0 none asked = none := by
      rw [offendingPeriod_whole, firstFrom_none]
      intro i x hx' hp
      rcases exists_periodOffends_iff.1 ⟨i, periodOffends_iff.2 ⟨x, hx', hp⟩⟩ with h | ⟨e, he, h⟩ | h
      · omega
      · exact absurd (hstart e he) (by omega)
      · exact h hrise
    rw [hx]
    obtain ⟨hrec, hmoves⟩ := hrecomputed { s.clock with schedule := entries } .setPeriods rfl
    exact congrArg _ (setPeriods_taken (s := s.clockTaken rest) (by simpa [asked] using hne) hnone
      (scheduleOf_asked entries) rfl hrec hmoves)

/-! ### The release of journal records (11 R181) -/

theorem append_range' {before after : List JournalRecord} {r : JournalRecord} {a k : Nat}
    (h : (before ++ r :: after).map (·.number) = List.range' a k) :
    r.number = a + before.length ∧ (∀ x ∈ before, x.number < r.number) ∧ (∀ x ∈ after, r.number < x.number) ∧
    a + k = r.number + 1 + after.length := by
  have hk : before.length + (after.length + 1) = k := by
    simpa using congrArg List.length h
  have hnum : r.number = a + before.length := by
    have := congrArg (·[before.length]?) h
    simpa [List.getElem?_range', show before.length < k by omega] using this
  have hasc : ((before ++ r :: after).map (·.number)).Pairwise (· < ·) := h ▸ List.pairwise_lt_range'
  rw [List.map_append, List.map_cons, List.pairwise_append] at hasc
  obtain ⟨-, hafter, hbefore⟩ := hasc
  refine ⟨hnum, fun x hx => ?_, fun x hx => ?_, by omega⟩
  · exact hbefore _ (List.mem_map_of_mem hx) _ List.mem_cons_self
  · exact (List.pairwise_cons.1 hafter).1 _ (List.mem_map_of_mem hx)

/-- The numbers held are those from the oldest to the newest (11 R178). -/
theorem holds_iff {j : JournalTotals} (hj : j.Consecutive) (n : Nat) :
    j.holds n = true ↔ ∃ r ∈ j.journal, r.number = n := by
  have hmem : (∃ r ∈ j.journal, r.number = n) ↔
      n ∈ List.range' (j.last + 1 - j.journal.length) j.journal.length := by
    rw [← hj.numbers]; simp
  have hold : j.oldest = (List.range' (j.last + 1 - j.journal.length) j.journal.length).head? := by
    rw [← hj.numbers, List.head?_map]; rfl
  have hnew : j.newest = (List.range' (j.last + 1 - j.journal.length) j.journal.length).getLast? := by
    rw [← hj.numbers, List.getLast?_map]; rfl
  rw [hmem, JournalTotals.holds, hold, hnew]
  generalize j.last + 1 - j.journal.length = a
  cases j.journal.length with
  | zero => simp
  | succ k =>
    simp [List.head?_range', List.getLast?_range', List.mem_range'_1]
    omega

/-- Settles O49: the records up to the number are those before it and its own. -/
theorem journalReleased : Obligations.JournalReleased := by
  intro s tag n rest hr hi hj
  have hx : exec .journalRelease s =
      .next (State.reply { s with totals := ((s.totalsTaken rest).totals.release n).1 } ⟨tag, .journalRelease n⟩
        ((s.totalsTaken rest).totals.release n).2) := by
    simp only [exec, execJournalRelease, hi]
    exact whenRunning_running hr _
  have hholds : JournalTotals.holds { s.totals with inbox := rest } n = s.totals.holds n := rfl
  refine ⟨fun hnot => ?_, fun before r after hjournal hn => ?_⟩
  · have hno : ¬ s.totals.holds n = true := fun h => by
      obtain ⟨r, hmem, hnum⟩ := (holds_iff hj n).1 h
      exact hnot r hmem hnum
    rw [hx, JournalTotals.release]
    simp only [State.totalsTaken, hholds, if_neg hno]
  · have hyes : s.totals.holds n = true :=
      (holds_iff hj n).2 ⟨r, hjournal ▸ List.mem_append_right _ List.mem_cons_self, hn⟩
    have hnumbers := hj.numbers
    rw [hjournal] at hnumbers
    obtain ⟨-, hbefore, hafter, -⟩ := append_range' hnumbers
    have hkept : s.totals.journal.filter (fun x => decide (n < x.number)) = after := by
      rw [hjournal, ← hn, List.filter_append, List.filter_eq_nil_iff.2, List.nil_append,
        List.filter_cons_of_neg (by simp), List.filter_eq_self.2]
      · simpa using hafter
      · intro x hx
        simpa using (hbefore x hx).le
    have hcount : s.totals.journal.length - after.length = before.length + 1 := by
      rw [hjournal, List.length_append, List.length_cons]; omega
    have hmark : (s.totals.high && decide (1536 ≤ after.length)) =
        if after.length < 1536 then false else s.totals.high := by
      by_cases h : after.length < 1536
      · simp [h, Nat.not_le.2 h]
      · simp [h, Nat.not_lt.1 h]
    refine ⟨_, ?_, rfl, fun hex hroom => ?_⟩
    · rw [hx, JournalTotals.release]
      simp only [State.totalsTaken, hholds, if_pos hyes, hkept, hcount, JournalTotals.rearmed, hmark]
      rfl
    · have hsize := hj.size
      rw [hjournal, List.length_append, List.length_cons] at hsize
      simp only [JournalTotals.free, hex, hjournal, List.length_append, List.length_cons,
        reduceCtorEq, if_false, Config.journalSize, Config.lastJournalNumber] at hsize ⊢
      omega

/-! ### The totals (11 R183 to R186) -/

/-- A figure of the hall sums is the sum of the stations' figures, saturating. -/
theorem foldl_add {f : Counters → Nat} (hf : ∀ t u, f (Counters.add t u) = satAdd (f t) (f u))
    (l : List Counters) (z : Counters) (hz : f z ≤ 4294967295) :
    f (l.foldl Counters.add z) = min (f z + (l.map f).sum) 4294967295 := by
  induction l generalizing z with
  | nil => simpa using (min_eq_left hz).symm
  | cons t ts ih =>
    have hnext : f (z.add t) = min (f z + f t) 4294967295 := hf z t
    rw [List.foldl_cons, ih _ (by rw [hnext]; exact min_le_right _ _), hnext, List.map_cons, List.sum_cons]
    omega

theorem hallSums_figure {f : Counters → Nat} (hf : ∀ t u, f (Counters.add t u) = satAdd (f t) (f u))
    (hz : f Counters.zero = 0) (t : Sixteen Counters) :
    f (hallSums t) = min (t.toList.map f).sum 4294967295 := by
  rw [hallSums, foldl_add hf _ _ (by rw [hz]; decide), hz, Nat.zero_add]

theorem counters_eta (t : Counters) : t = ⟨t.sales, t.charged, t.subsidy, t.allowance, t.credits,
    t.reversals, t.reversalSum, t.cashCount, t.cashSum⟩ := rfl

/-- Settles O50. -/
theorem totalsClosed : Obligations.TotalsClosed := by
  refine ⟨fun t => ?_, fun s => ⟨fun tag rest hr hi => ?_, fun e events hst hb => ?_⟩⟩
  · rw [counters_eta (hallSums t)]
    simp only [hallSums_figure (f := Counters.sales) (fun _ _ => rfl) rfl,
      hallSums_figure (f := Counters.charged) (fun _ _ => rfl) rfl,
      hallSums_figure (f := Counters.subsidy) (fun _ _ => rfl) rfl,
      hallSums_figure (f := Counters.allowance) (fun _ _ => rfl) rfl,
      hallSums_figure (f := Counters.credits) (fun _ _ => rfl) rfl,
      hallSums_figure (f := Counters.reversals) (fun _ _ => rfl) rfl,
      hallSums_figure (f := Counters.reversalSum) (fun _ _ => rfl) rfl,
      hallSums_figure (f := Counters.cashCount) (fun _ _ => rfl) rfl,
      hallSums_figure (f := Counters.cashSum) (fun _ _ => rfl) rfl]
  · refine ⟨(s.totalsTaken rest).totals.closeDay s.time, ?_,
      fun st => ⟨rfl, stationGet_fill _ st⟩, rfl, rfl, rfl, rfl, rfl, rfl, rfl, rfl, rfl, rfl, rfl⟩
    simp only [exec, execDayClose, hi]
    exact whenRunning_running hr _
  · refine ⟨JournalTotals.capture { s.totals with boundary := events } e, ?_,
      fun st => ⟨rfl, stationGet_fill _ st⟩, rfl, rfl, rfl, rfl, rfl, rfl, rfl, rfl, rfl, rfl, rfl⟩
    simp only [exec, execPeriodCounterCapture, hb]
    exact whenStarted_started hst _

end Sys2Proof.Machine


/-! PROOFS. The step, what a part that stands still takes (12 R195, R196), the supplies and the RESET line, and
the requests that a Lane Controller takes (chapters 9 and 10). -/

namespace Sys2Proof.Machine

open Sys2Proof

/-! ### The step and the standstill -/

/-- Settles O1. -/
theorem stepRunsFrontCommand : Obligations.StepRunsFrontCommand :=
  ⟨step_cons, fun s h => by rw [step, h]⟩

/-- A command that does not reach a part that stands still waits for it to run, or, taking a boundary event,
for it to be started. -/
theorem exec_waits {c : Instr} (hc : takenStopped c = false) (s : State) :
    (∃ u, exec c s = whenRunning s u) ∨ takesEvent c = true ∧ ∃ u, exec c s = whenStarted s u := by
  cases c with
  | mainSupplyLoss | mainSupplyReturn | backupFailure | resetLineAssert | resetLineRelease | warmStart
  | coldStart | secondsCountAdvance | minuteAdvance => exact absurd hc nofun
  | tariffBoundarySwap | periodCounterCapture => exact .inr ⟨rfl, _, rfl⟩
  | _ => exact .inl ⟨_, rfl⟩

theorem started_iff {s : State} : s.started = true ↔
    s.hall.power = .run ∧ s.hall.resetHeld = false ∧ s.hall.startDue = none := by
  simp [State.started]

theorem running_iff_events {s : State} : s.running = true ↔ s.started = true ∧
    (∀ e ∈ s.tariff.boundary, e.cause ≠ .warmStart) ∧ ∀ e ∈ s.totals.boundary, e.cause ≠ .warmStart := by
  simp [State.running, State.settling, BoundaryEvent.ofStart]

/-- Settles O3. -/
theorem stoppedPartTakesNothing : Obligations.StoppedPartTakesNothing := by
  intro s
  refine ⟨started_iff, running_iff_events, fun c hc => ?_⟩
  have hstopped : s.started = false → s.running = false := fun h => by simp [State.running, h]
  rcases exec_waits hc s with ⟨u, hu⟩ | ⟨hevent, u, hu⟩
  · exact ⟨fun h => hu.trans (whenRunning_stopped (hstopped h) u), fun _ h => hu.trans (whenRunning_stopped h u)⟩
  · exact ⟨fun h => hu.trans (whenStarted_stopped h u), fun h => absurd (h.symm.trans hevent) nofun⟩

/-! ### The supplies and the RESET line (12 R195) -/

theorem startOnRelease_kept {d : DueStart} (h : d ≠ .warm .softReset) : startOnRelease (some d) = d := by
  cases d with
  | cold b => rfl
  | warm cause =>
    cases cause with
    | softReset => exact absurd rfl h
    | supply => rfl
    | resetLine => rfl

/-- Settles O59. -/
theorem stopsAndReturns : Obligations.StopsAndReturns := by
  intro s stopped
  refine ⟨fun hp hl => ?_, fun hp hl => ?_, fun hp hd => ?_, rfl, fun hp hl hd => ?_,
    fun hp hl => ⟨fun hd => ?_, fun d hd hne => ?_⟩, fun hp hl => ?_, fun hp hl => ?_⟩
  · simp only [exec, execMainSupplyLoss, hp, HallControl.loseSupply, hl]
    rfl
  · simp only [exec, execMainSupplyLoss, hp, HallControl.loseSupply, hl]
    rfl
  · simp only [exec, execMainSupplyReturn, hp, HallControl.startOnReturn, hd]
  · simp only [exec, execResetLineAssert, hp, hl, HallControl.holdLine, hd]
    rfl
  · simp only [exec, execResetLineRelease, hp, hl, HallControl.releaseLine, hd]
    rfl
  · simp only [exec, execResetLineRelease, hp, hl, HallControl.releaseLine, hd, startOnRelease_kept hne]
    rfl
  · simp only [exec, execResetLineAssert, hp, hl]
    rfl
  · simp only [exec, execResetLineRelease, hp, hl, HallControl.releaseLine]
    rfl

/-! ### The state after a cold start -/

theorem station_initial (st : StationId) : State.reset.station st = StationRecord.initial := by
  obtain ⟨l, a⟩ := st
  cases l <;> exact Eight.get_fill _ _

theorem station_within_initial : StationRecord.initial.Within where
  score := by decide
  calls := by decide
  waits := by decide
  silent := by decide
  unserved := fun _ => ⟨rfl, rfl, rfl, rfl, rfl, rfl⟩
  absent := fun _ => ⟨rfl, rfl, rfl, rfl⟩
  orphaned := fun _ => nofun
  failed := by decide

theorem lane_within_initial : LaneControl.initial.Within where
  timeout := by decide
  waitLimit := by decide
  stations := fun a => by rw [LaneControl.initial, Eight.get_fill]; exact station_within_initial
  waits := fun a => by rw [LaneControl.initial, Eight.get_fill]; decide
  off := fun _ => ⟨rfl, fun a => by rw [LaneControl.initial, Eight.get_fill]; rfl⟩

theorem journalLaw_reset : State.reset.JournalLaw where
  consecutive := ⟨by decide, by decide, nofun, by decide, by decide, rfl⟩
  numbered := ⟨List.nodup_nil, nofun, by decide, by decide⟩
  reserved := Nat.zero_le _

theorem cardsHeld_initial : SaleEngine.initial.CardsHeld := by
  constructor <;> simp [SaleEngine.initial, SaleEngine.inFlight]

theorem queueLaw_reset : State.reset.QueueLaw where
  size := by decide
  stations := List.nodup_nil
  host := by decide
  waiting := nofun
  unasked := fun st _ => by rw [station_initial]; rfl
  orphaned := fun st o ho => by rw [station_initial] at ho; exact absurd ho nofun

theorem flagsAgree_reset : State.reset.FlagsAgree := by
  intro st n
  rw [station_initial]
  exact ⟨nofun, fun ⟨_, hc, _⟩ => absurd hc nofun⟩

theorem tariffSet_within_initial : TariffUnit.initial.active.Within where
  ascending := List.Pairwise.nil
  size := by decide
  items := nofun
  groups := by decide

theorem tariff_within_initial : TariffUnit.initial.Within where
  active := tariffSet_within_initial
  staged := nofun
  generation := by decide

theorem clock_within_initial : HallClock.initial.Within where
  day := by decide
  minute := by decide
  second := by decide
  schedule_pos := by decide
  schedule_size := by decide
  rising := by decide
  starts := by decide
  unset := by decide
  fits := nofun

theorem office_within_initial : OfficeLink.initial.Within where
  tags := by decide
  distinct := List.nodup_nil
  refusals := by decide
  reports := by decide

/-- Settles O4. -/
theorem resetState : Obligations.ResetState := by
  refine ⟨⟨rfl, rfl, rfl⟩, ⟨rfl, rfl, rfl, rfl, rfl, rfl, rfl⟩, ?lanes, station_initial,
    ⟨rfl, rfl, rfl, rfl, rfl, rfl, rfl, fun st => stationGet_fill _ st⟩, ⟨rfl, rfl, ?ranges⟩,
    ⟨rfl, rfl, rfl, ?groups⟩, ⟨rfl, rfl, rfl, rfl, rfl, rfl, rfl⟩,
    ⟨rfl, rfl, rfl, rfl, rfl, rfl, rfl, ?counters⟩,
    office_within_initial, fun _ => List.Perm.refl _, journalLaw_reset, initial_ordersRide,
    cardsHeld_initial, queueLaw_reset, flagsAgree_reset, ⟨List.Pairwise.nil, by decide⟩,
    tariff_within_initial, clock_within_initial, fun _ => ⟨rfl, rfl⟩, lane_within_initial,
    lane_within_initial⟩
  case lanes => intro l; cases l <;> exact ⟨rfl, rfl, rfl, rfl, rfl, rfl⟩
  case ranges => intro n; fin_cases n <;> rfl
  case groups =>
    intro g p
    have hg : State.reset.tariff.active.groups.get g = GroupFigures.zero := Eight.get_fill _ _
    rw [hg]
    exact ⟨⟨Eight.get_fill _ _, Eight.get_fill _ _⟩, rfl, rfl⟩
  case counters =>
    intro st k hk
    simp only [List.mem_cons, List.not_mem_nil, or_false] at hk
    rcases hk with rfl | rfl | rfl | rfl <;> exact stationGet_fill _ st

end Sys2Proof.Machine


/-! PROOFS. What a Lane Controller does between its exchanges: the host's requests (chapters 9 and 10) and the
poll it sends next (09 R151). -/

namespace Sys2Proof.Machine

open Sys2Proof

/-! ### LANE_SET, LANE_SETTINGS and CLEAR_LINE_STUCK -/

theorem mem_addresses (a : Fin 8) : a ∈ addresses := by
  fin_cases a <;> decide

theorem nodup_addresses : addresses.Nodup := by decide

theorem mem_present {c : LaneControl} {a : Fin 8} : a ∈ c.present ↔ (c.stations.get a).state ≠ .absent := by
  simp [LaneControl.present, mem_addresses]

theorem mem_holding {c : LaneControl} {a : Fin 8} : a ∈ c.holding ↔
    (c.stations.get a).state ≠ .absent ∧ (c.stations.get a).contextFlag ≠ none := by
  simp [LaneControl.holding, mem_present, Option.isSome_iff_ne_none]

theorem nodup_present (c : LaneControl) : c.present.Nodup := nodup_addresses.filter _

theorem nodup_holding (c : LaneControl) : c.holding.Nodup := (nodup_present c).filter _

theorem setLane_setLane (s : State) (l : Lane) (x y : LaneControl) :
    (s.setLane l x).setLane l y = s.setLane l y := by
  cases l <;> rfl

theorem clampTo_cases (lo hi n : Nat) (h : lo ≤ hi) : (n < lo → clampTo lo hi n = lo) ∧
    (lo ≤ n → n ≤ hi → clampTo lo hi n = n) ∧ (hi < n → clampTo lo hi n = hi) := by
  unfold clampTo
  omega

section Requests

variable {s : State} {l : Lane} {tag : Byte} {rest : List Handed}

theorem exec_laneSet {ref : Option Lane} {m : LaneMode} (hr : s.running = true)
    (hi : (s.lane l).inbox = ⟨tag, .laneSet ref m⟩ :: rest) :
    exec (.laneSet l) s = .next ((s.laneTaken l rest).laneSet ⟨tag, .laneSet ref m⟩ l m) := by
  simp only [exec, execLaneSet, hi]
  exact whenRunning_running hr _

end Requests

/-- R149: what the lane's stations are once it is in OFF. -/
theorem station_off (r : StationRecord) : (if r.state = .absent then r else r.madeAbsent) =
    if r.state = .absent then r
    else { StationRecord.initial with
      contextFlag := r.contextFlag, outstanding := r.outstanding.map fun o => { o with orphaned := true } } :=
  rfl

theorem lane_laneEntersOff (s : State) (l : Lane) : (s.laneEntersOff l).lane l = { s.lane l with
    mode := .off, exchange := none, position := some 0, waiting := none
    stations := (s.lane l).stations.map fun r => if r.state = .absent then r else r.madeAbsent } := by
  cases l <;> rfl

theorem lane_laneEntersOff_other (s : State) {l k : Lane} (h : k ≠ l) :
    (s.laneEntersOff l).lane k = s.lane k :=
  lane_setLane_other s h _

theorem laneSet_same {s : State} {h : Handed} {l : Lane} {m : LaneMode} (hm : m = (s.lane l).mode) :
    s.laneSet h l m = s.reply h (.laneModes m m) := by
  cases hc : (s.lane l).mode <;> rw [hc] at hm <;> subst hm <;> simp only [State.laneSet, hc]

theorem laneSet_cannotPause {s : State} {h : Handed} {l : Lane} (hm : (s.lane l).mode = .off) :
    s.laneSet h l .paused = s.reply h .cannotPause := by
  simp only [State.laneSet, hm]

theorem laneSet_paused {s : State} {h : Handed} {l : Lane} (hm : (s.lane l).mode = .running) :
    s.laneSet h l .paused =
      (s.setLane l { s.lane l with mode := .paused, waiting := none }).reply h (.laneModes .running .paused) := by
  simp only [State.laneSet, hm]

theorem laneSet_off {s : State} {h : Handed} {l : Lane} (hm : (s.lane l).mode ≠ .off) :
    s.laneSet h l .off =
      (s.laneEntersOff l).reply h (.laneOff (s.lane l).mode (s.lane l).present.length
        (s.lane l).holding.length) := by
  cases hc : (s.lane l).mode with
  | off => exact absurd hc hm
  | paused => simp only [State.laneSet, hc]
  | running => simp only [State.laneSet, hc]

theorem laneSet_running {s : State} {h : Handed} {l : Lane} (hm : (s.lane l).mode ≠ .running) :
    s.laneSet h l .running =
      (s.setLane l { s.lane l with mode := .running, position := some 0, waiting := none }).reply h
        (.laneModes (s.lane l).mode .running) := by
  cases hc : (s.lane l).mode with
  | running => exact absurd hc hm
  | paused => simp only [State.laneSet, hc]
  | off => simp only [State.laneSet, hc]

/-- Settles O57. -/
theorem laneRequests : Obligations.LaneRequests := by
  intro s l tag rest hr c u
  have htaken : s.laneTaken l rest = u := rfl
  have hlane : u.lane l = { c with inbox := rest } := lane_setLane ..
  refine ⟨fun ref m hi => ?set, fun ref recovery errors timeout wait hi => ?settings, fun ref hi => ?clear⟩
  case set =>
    rw [exec_laneSet hr hi, htaken]
    refine ⟨fun hm => ?_, fun hc hm => ?_, fun hc hm => ?_, fun hc hm => ?_, fun hc hm => ?_⟩
    · exact congrArg _ (laneSet_same (by rw [hlane]; exact hm))
    · subst hm
      exact congrArg _ (laneSet_cannotPause (by rw [hlane]; exact hc))
    · subst hm
      rw [laneSet_paused (by rw [hlane]; exact hc), hlane, setLane_setLane]
    · subst hm
      rw [laneSet_running (by rw [hlane]; exact hc), hlane, setLane_setLane]
    · subst hm
      refine ⟨u.laneEntersOff l, c.present, c.holding, ?_, ⟨nodup_present c, fun a => mem_present⟩,
        ⟨nodup_holding c, fun a => mem_holding⟩, ?_, ?_, fun a => ?_, fun k hk => ?_, ?_, ?_, ?_, ?_, ?_, ?_⟩
      · rw [laneSet_off (by rw [hlane]; exact hc), hlane]
        rfl
      · simp [State.laneEntersOff, hlane, u]
        rfl
      · rw [lane_laneEntersOff, hlane]
      · rw [lane_laneEntersOff, hlane, Eight.get_map]
        rfl
      · rw [lane_laneEntersOff_other _ hk]
        exact lane_setLane_other _ hk _
      all_goals simp [State.laneEntersOff, u]
  case settings =>
    replace hi : (s.lane l).inbox = _ := hi
    refine ⟨fun hc => ?_, fun hc => ⟨clampTo 1 15 timeout, clampTo 1 1000 wait, ?_, ?_⟩⟩
    · simp only [exec, execLaneSettings, hi]
      rw [whenRunning_running hr, htaken, hlane, if_neg hc]
    · simp only [exec, execLaneSettings, hi]
      rw [whenRunning_running hr, htaken, hlane, if_pos hc, setLane_setLane]
    · obtain ⟨h1, h2, h3⟩ := clampTo_cases 1 15 timeout (by decide)
      obtain ⟨h4, h5, h6⟩ := clampTo_cases 1 1000 wait (by decide)
      exact ⟨h1, h2, h3, h4, h5, h6⟩
  case clear =>
    replace hi : (s.lane l).inbox = _ := hi
    simp only [exec, execClearLineStuck, hi]
    rw [whenRunning_running hr, htaken, hlane, setLane_setLane]

/-! ### ENROLL, RELEASE, RESTORE and CLEAR_STATION_ERRORS -/

/-- Settles O58: each request by the state of the station it names. -/
theorem stationRequests : Obligations.StationRequests := by
  intro s st tag rest hr r u with'
  obtain ⟨l, a⟩ := st
  have htaken : s.laneTaken l rest = u := rfl
  have hstation : u.station ⟨l, a⟩ = r := by
    show ((u.lane l).stations.get a) = _
    rw [show u.lane l = _ from lane_setLane ..]
    rfl
  have hset : ∀ y, u.setStation ⟨l, a⟩ y = with' y := by
    intro y
    show u.setLane l ((u.lane l).setStation a y) = _
    rw [show u.lane l = _ from lane_setLane ..]
    exact setLane_setLane ..
  refine ⟨fun role hi => ⟨fun h => ?_, fun h => ?_⟩, fun hi => ⟨fun h => ?_, fun h1 h2 h3 => ⟨fun n hn => ?_,
    fun hn => ?_⟩⟩, fun hi => ⟨fun h => ?_, fun h1 h2 => ?_⟩, fun hi => ?_⟩
  · simp only [exec, execEnroll, hi]
    rw [whenRunning_running hr, htaken, hstation, if_pos h, hset]
  · simp only [exec, execEnroll, hi]
    rw [whenRunning_running hr, htaken, hstation, if_neg h]
  · simp only [exec, execRelease, hi]
    rw [whenRunning_running hr, htaken, hstation]
    rcases h with h | h | h <;> simp only [h]
  · simp only [exec, execRelease, hi]
    rw [whenRunning_running hr, htaken, hstation]
    cases hs : r.state <;> simp_all
  · simp only [exec, execRelease, hi]
    rw [whenRunning_running hr, htaken, hstation, ← hset]
    have habsent : r.madeAbsent = { StationRecord.initial with
        outstanding := r.outstanding.map fun o => { o with orphaned := true } } := by
      rw [StationRecord.madeAbsent, hn]
      rfl
    rw [← habsent]
    cases hs : r.state <;> simp_all
  · simp only [exec, execRestore, hi]
    rw [whenRunning_running hr, htaken, hstation, if_pos h, hset]
  · simp only [exec, execRestore, hi]
    rw [whenRunning_running hr, htaken, hstation, if_neg (not_or.2 ⟨h1, h2⟩)]
  · simp only [exec, execClearStationErrors, hi]
    rw [whenRunning_running hr, htaken, hstation, hset]

/-! ### The poll (09 R151, R152, R155) -/

theorem addresses_getElem (i : Nat) (h : i < addresses.length) : addresses[i] = ⟨i, h⟩ := by
  have hi : i < 8 := h
  interval_cases i <;> rfl

theorem find_address_iff {p : Fin 8 → Bool} {a : Fin 8} :
    addresses.find? p = some a ↔ p a = true ∧ ∀ b, b < a → p b = false := by
  rw [List.find?_eq_some_iff_getElem]
  refine and_congr_right fun _ => ?_
  simp only [addresses_getElem, Bool.not_eq_true']
  constructor
  · rintro ⟨i, hi, rfl, hbefore⟩ b hb
    exact hbefore b.val hb
  · intro h
    exact ⟨a.val, a.isLt, rfl, fun j hj => h ⟨j, _⟩ hj⟩

theorem find_address_none {p : Fin 8 → Bool} : addresses.find? p = none ↔ ∀ b, p b = false := by
  simp [List.find?_eq_none, mem_addresses]

/-- The walk finds the first served address at or above the position. -/
theorem servedFrom_some {c : LaneControl} {n : Nat} {a : Fin 8} : c.servedFrom n = some a ↔
    (n ≤ a.val ∧ (c.stations.get a).state.served = true) ∧
      ∀ b, b < a → n ≤ b.val → (c.stations.get b).state.served = false := by
  simp [LaneControl.servedFrom, find_address_iff]

theorem servedFrom_none {c : LaneControl} {n : Nat} : c.servedFrom n = none ↔
    ∀ b : Fin 8, n ≤ b.val → (c.stations.get b).state.served = false := by
  rw [LaneControl.servedFrom, find_address_none]
  simp

/-- The roll-call slot's address: the next of the set above the pointer, wrapping from 8 to 1. -/
theorem nextCalled_some {c : LaneControl} {a : Fin 8} (ha : (c.stations.get a).state.called = true)
    (h : c.rollPointer < a ∧ (∀ b, c.rollPointer < b → b < a → (c.stations.get b).state.called = false) ∨
      a ≤ c.rollPointer ∧ (∀ b, c.rollPointer < b → (c.stations.get b).state.called = false) ∧
        (∀ b, b < a → (c.stations.get b).state.called = false)) : c.nextCalled = some a := by
  rw [LaneControl.nextCalled]
  rcases h with ⟨hlt, hbefore⟩ | ⟨-, habove, hbefore⟩
  · have hfound : (addresses.find? fun b => decide (c.rollPointer.val < b.val) &&
        (c.stations.get b).state.called) = some a := by
      refine find_address_iff.2 ⟨by simpa [ha] using hlt, fun b hb => ?_⟩
      by_cases hp : c.rollPointer < b
      · simp [hbefore b hp hb]
      · simp [show ¬ c.rollPointer.val < b.val from hp]
    rw [hfound, Option.some_or]
  · rw [find_address_none.2 fun b => ?_, Option.none_or, find_address_iff]
    · exact ⟨ha, hbefore⟩
    · by_cases hp : c.rollPointer < b
      · simp [habove b hp]
      · simp [show ¬ c.rollPointer.val < b.val from hp]

theorem nextCalled_none {c : LaneControl} (h : ∀ b, (c.stations.get b).state.called = false) :
    c.nextCalled = none := by
  rw [LaneControl.nextCalled, find_address_none.2 fun b => by simp [h b], Option.none_or,
    find_address_none.2 h]

/-- The walk of the round has no address left. -/
def LaneControl.Walked (c : LaneControl) : Prop :=
  ∀ p b, c.position = some p → p ≤ b → (c.stations.get b).state.served = false

theorem walk_none {c : LaneControl} (h : c.Walked) : (c.position.bind fun p => c.servedFrom p.val) = none := by
  cases hp : c.position with
  | none => rfl
  | some p => exact servedFrom_none.2 fun b hb => h p b hp hb

theorem nextPoll_served {c : LaneControl} {p a : Fin 8} (hp : c.position = some p) (hle : p ≤ a)
    (ha : (c.stations.get a).state.served = true)
    (hbefore : ∀ b, p ≤ b → b < a → (c.stations.get b).state.served = false) :
    c.nextPoll = some (a, .poll) := by
  have hfound : (c.position.bind fun p => c.servedFrom p.val) = some a := by
    rw [hp]
    exact servedFrom_some.2 ⟨⟨hle, ha⟩, fun b hb hpb => hbefore b hpb hb⟩
  simp only [LaneControl.nextPoll, hfound]

theorem nextPoll_called {c : LaneControl} {a : Fin 8} (hw : c.Walked) (h : c.nextCalled = some a) :
    c.nextPoll = some (a, .rollCall) := by
  simp only [LaneControl.nextPoll, walk_none hw, h]

theorem nextPoll_round {c : LaneControl} (hw : c.Walked)
    (h : ∀ b, (c.stations.get b).state.called = false) :
    c.nextPoll = (c.servedFrom 0).map fun a => (a, .poll) := by
  simp only [LaneControl.nextPoll, walk_none hw, nextCalled_none h]

theorem positionAfter_eq (a : Fin 8) (k : PollKind) :
    positionAfter a k = if k = .rollCall then none else if a = 7 then none else some (a + 1) := by
  cases k with
  | rollCall => rfl
  | poll => fin_cases a <;> rfl

@[simp] theorem lane_handDelivery (s : State) (st : StationId) (n : Option Nat) (l : Lane) :
    (s.handDelivery st n).lane l = s.lane l := by
  cases n <;> rfl

/-- 09 R152, R155: what the sending of a poll changes. -/
structure SendsPoll (s : State) (l : Lane) (a : Fin 8) (k : PollKind) (t : State) : Prop where
  lane : t.lane l = { s.lane l with
    exchange := some ⟨((s.lane l).stations.get a).poll a k, []⟩
    position := positionAfter a k
    rollPointer := if k = .rollCall then a else (s.lane l).rollPointer
    waiting := none
    stations := (s.lane l).stations.set a ((s.lane l).stations.get a).polled }
  lanes : ∀ m, m ≠ l → t.lane m = s.lane m
  sale : t.sale = { s.sale with deliveries := s.sale.deliveries ++
    (((s.lane l).stations.get a).firstDelivery.map fun n => (⟨⟨l, a⟩, n⟩ : Delivery)).toList }
  others : t.office = s.office ∧ t.hall = s.hall ∧ t.decoder = s.decoder ∧ t.tariff = s.tariff ∧
    t.clock = s.clock ∧ t.totals = s.totals ∧ t.pending = s.pending

theorem sendTo_sends (s : State) (l : Lane) (a : Fin 8) (k : PollKind) :
    SendsPoll s l a k (s.sendTo l a k) where
  lane := by
    refine (lane_handDelivery ..).trans ((lane_setLane ..).trans ?_)
    cases k <;> rfl
  lanes := fun m hm => (lane_handDelivery ..).trans (lane_setLane_other _ hm _)
  sale := by
    cases hd : ((s.lane l).stations.get a).firstDelivery <;> simp [State.sendTo, hd, State.handDelivery]
  others := by
    cases hd : ((s.lane l).stations.get a).firstDelivery <;> simp [State.sendTo, hd, State.handDelivery]

section Commands

variable {s : State} {l : Lane}

theorem exec_sendPoll (hr : s.running = true) (hm : (s.lane l).mode = .running)
    (hx : (s.lane l).exchange = none) (hw : (s.lane l).waiting = none) :
    exec (.sendPoll l) s = .next (s.sendNext l) := by
  show whenRunning s _ = _
  rw [whenRunning_running hr, if_pos ⟨hm, hx, hw⟩]

theorem exec_sendPoll_waiting (hr : s.running = true) (hw : (s.lane l).waiting ≠ none) :
    exec (.sendPoll l) s = .next s := by
  show whenRunning s _ = _
  rw [whenRunning_running hr, if_neg fun h => hw h.2.2]

theorem exec_lineIdleResume {p : Fin 8 × PollKind} (hr : s.running = true)
    (hm : (s.lane l).mode = .running) (hx : (s.lane l).exchange = none)
    (hw : (s.lane l).waiting = some p) :
    exec (.lineIdleResume l) s = .next (s.sendTo l p.1 p.2) := by
  simp only [exec, execLineIdleResume, hw]
  rw [whenRunning_running hr, if_pos ⟨hm, hx⟩]

theorem exec_lineIdleResume_idle (hr : s.running = true) (hw : (s.lane l).waiting = none) :
    exec (.lineIdleResume l) s = .next s := by
  simp only [exec, execLineIdleResume, hw]
  exact whenRunning_running hr _

theorem exec_lineStuck {p : Fin 8 × PollKind} (hr : s.running = true) (hm : (s.lane l).mode = .running)
    (hx : (s.lane l).exchange = none) (hp : (s.lane l).readyPoll = some p) :
    exec (.lineStuck l) s = .next (if (s.lane l).lineStuck = true then
      s.setLane l { s.lane l with lineStuck := true, waiting := some p }
      else (s.setLane l { s.lane l with lineStuck := true, waiting := some p }).queueReport
        (.lineStuck l s.time)) := by
  show whenRunning s _ = _
  rw [whenRunning_running hr, if_pos ⟨hm, hx⟩, hp]

theorem exec_lineStuck_idle (hr : s.running = true) (hp : (s.lane l).readyPoll = none) :
    exec (.lineStuck l) s = .next s := by
  show whenRunning s _ = _
  rw [whenRunning_running hr]
  simp only [hp, ite_self]

end Commands

theorem firstDelivery_list (l : Lane) (a : Fin 8) (r : StationRecord) :
    (r.firstDelivery.map fun n => (⟨⟨l, a⟩, n⟩ : Delivery)).toList =
      match r.slot with
      | some ⟨_, .writeOrder o, false⟩ => [⟨⟨l, a⟩, o.sale⟩]
      | _ => [] := by
  unfold StationRecord.firstDelivery
  rcases r.slot with _ | ⟨n, reply, sent⟩
  · rfl
  · cases reply <;> cases sent <;> rfl

theorem served_iff (x : StationState) : (x = .good ∨ x = .doubtful ∨ x = .leaving) ↔ x.served = true := by
  cases x <;> decide

theorem called_iff (x : StationState) : (x = .absent ∨ x = .pending ∨ x = .dropped) ↔ x.called = true := by
  cases x <;> decide

/-- Settles O53. -/
theorem pollSent : Obligations.PollSent := by
  intro s l hr hm hx c walked
  refine ⟨?sends, fun p a hp hle ha hb => nextPoll_served hp hle ha hb,
    fun a hw ha hnext => nextPoll_called hw (nextCalled_some ha hnext), fun hw hcall => ⟨?_, ?_⟩,
    fun x => ⟨served_iff x, called_iff x⟩, ?stuck, fun hw => exec_sendPoll_waiting hr hw,
    fun hw => exec_lineIdleResume_idle hr hw⟩
  case sends =>
    intro i a k hi r
    have hsent : exec i s = .next (s.sendTo l a k) := by
      rcases hi with ⟨rfl, hw, hn⟩ | ⟨rfl, hw⟩
      · rw [exec_sendPoll hr hm hx hw, State.sendNext, show (s.lane l).nextPoll = some (a, k) from hn]
      · exact exec_lineIdleResume hr hm hx hw
    obtain ⟨hlane, hlanes, hsale, hoffice, hhall, hdecoder, htariff, hclock, htotals, -⟩ :=
      sendTo_sends s l a k
    rw [positionAfter_eq] at hlane
    rw [firstDelivery_list] at hsale
    exact ⟨_, hsent, hlane, hlanes, hsale, hoffice, hhall, hdecoder, htariff, hclock, htotals⟩
  · intro a ha hbefore
    rw [nextPoll_round hw hcall, servedFrom_some.2 ⟨⟨Nat.zero_le _, ha⟩, fun b hb _ => hbefore b hb⟩]
    rfl
  · intro hserved hwait
    have hnone : c.nextPoll = none := by
      rw [nextPoll_round hw hcall, servedFrom_none.2 fun b _ => hserved b]
      rfl
    constructor
    · rw [exec_sendPoll hr hm hx hwait, State.sendNext, show (s.lane l).nextPoll = none from hnone]
      exact congrArg (fun w => Host.Outcome.next (s.setLane l { s.lane l with position := some 0, waiting := w }))
        hwait.symm
    · refine exec_lineStuck_idle hr ?_
      rw [LaneControl.readyPoll, show (s.lane l).waiting = none from hwait,
        show (s.lane l).nextPoll = none from hnone]
      rfl
  case stuck =>
    intro p hp
    have hready : (s.lane l).readyPoll = some p := by
      rcases hp with hw | ⟨hw, hn⟩
      · rw [LaneControl.readyPoll, show (s.lane l).waiting = some p from hw]; rfl
      · rw [LaneControl.readyPoll, show (s.lane l).waiting = none from hw,
          show (s.lane l).nextPoll = some p from hn]; rfl
    rw [exec_lineStuck hr hm hx hready]
    refine ⟨fun hs => ?_, fun hs => ?_⟩
    · rw [if_neg (by rw [show (s.lane l).lineStuck = false from hs]; exact nofun)]
    · rw [if_pos hs]
      exact congrArg (fun b => Host.Outcome.next (s.setLane l { s.lane l with lineStuck := b, waiting := some p }))
        hs.symm

end Sys2Proof.Machine


/-! PROOFS. The end of an exchange (09 R153 to R158, 10 R163 to R170): what it does to one station's record, which
reports, loss events and requests it gives out with it, and nothing else. -/

namespace Sys2Proof.Machine

open Sys2Proof

/-! ### A deed at one station -/

/-- What is done at one station: its record after, and the reports, loss events and queued requests given out. -/
structure Deed where
  record : StationRecord
  reports : List Report := []
  losses : List Loss := []
  works : List Work := []

/-- One deed after another at the same station. -/
def Deed.andThen (d e : Deed) : Deed :=
  ⟨e.record, d.reports ++ e.reports, d.losses ++ e.losses, d.works ++ e.works⟩

def State.does (s : State) (st : StationId) (d : Deed) : State :=
  { s.setStation st d.record with
    office := s.office.reported d.reports
    sale := { s.sale with losses := s.sale.losses ++ d.losses, queue := s.sale.queue ++ d.works } }

section Does

variable (s : State) (st : StationId) (d e : Deed)

theorem does_does : (s.does st d).does st e = s.does st (d.andThen e) := by
  have hset := setStation_setStation s st d.record e.record
  rcases st with ⟨_ | _, a⟩ <;>
    simp_all [State.does, Deed.andThen, State.setStation, State.setLane, State.lane,
      LaneControl.setStation, reported_append]

theorem does_record (r : StationRecord) : s.does st ⟨r, [], [], []⟩ = s.setStation st r := by
  rcases st with ⟨_ | _, a⟩ <;>
    simp [State.does, State.setStation, State.setLane, State.lane, reported_nil]

theorem does_nothing : s.does st ⟨s.station st, [], [], []⟩ = s := by
  rw [does_record, setStation_station]

@[simp] theorem does_station : (s.does st d).station st = d.record :=
  station_setStation s st d.record

theorem does_station_other {su : StationId} (h : su ≠ st) : (s.does st d).station su = s.station su :=
  station_setStation_other s h d.record

theorem does_lanes : s.LanesKept (s.does st d) := lanesKept_setStation s st d.record

@[simp] theorem does_settings (l : Lane) : ((s.does st d).lane l).settings = (s.lane l).settings := by
  rw [does_lanes s st d l]

@[simp] theorem does_time : (s.does st d).time = s.time := by
  simp [State.does, State.time]

@[simp] theorem does_office : (s.does st d).office = s.office.reported d.reports := rfl

@[simp] theorem does_sale : (s.does st d).sale =
    { s.sale with losses := s.sale.losses ++ d.losses, queue := s.sale.queue ++ d.works } := rfl

theorem does_others : (s.does st d).hall = s.hall ∧ (s.does st d).decoder = s.decoder ∧
    (s.does st d).tariff = s.tariff ∧ (s.does st d).clock = s.clock ∧ (s.does st d).totals = s.totals ∧
    (s.does st d).pending = s.pending := by
  simp [State.does]

theorem setStation_does (r : StationRecord) : (s.setStation st r).does st d = s.does st d := by
  rw [← does_record, does_does]
  rfl

theorem does_setStation (r : StationRecord) : (s.does st d).setStation st r = s.does st { d with record := r } := by
  rw [← does_record, does_does]
  simp [Deed.andThen]

theorem does_queueReport (r : Report) :
    (s.does st d).queueReport r = s.does st { d with reports := d.reports ++ [r] } := by
  simp only [State.does, State.queueReport, reported_append]
  rfl

theorem does_handLoss (l : Loss) :
    (s.does st d).handLoss l = s.does st { d with losses := d.losses ++ [l] } := by
  simp [State.does, State.handLoss]

theorem does_enqueue (w : Work) :
    (s.does st d).enqueue w = s.does st { d with works := d.works ++ [w] } := by
  simp [State.does, State.enqueue]

end Does

/-! ### Faults and recoveries -/

/-- 10 R167: a change of state with its report. -/
theorem stateChange_eq (s : State) (st : StationId) (former : StationState) (r : StationRecord)
    (cause : StationCause) : s.stateChange st former r cause =
      s.does st ⟨r, [.stationState st former r.state cause r.score r.cleanCalls r.errors s.time], [], []⟩ := by
  rw [State.stateChange, ← does_record, does_queueReport]
  rfl

/-- 04 R83: the loss event of a station that holds a context. -/
def StationRecord.loss (r : StationRecord) (st : StationId) (cause : LossCause) : List Loss :=
  if r.contextFlag = none then [] else [⟨st, cause⟩]

theorem does_lossIfHolding (s : State) (st : StationId) (d : Deed) (cause : LossCause) :
    (s.does st d).lossIfHolding st cause =
      s.does st { d with losses := d.losses ++ d.record.loss st cause } := by
  rw [State.lossIfHolding, does_station, StationRecord.loss]
  split
  · simp
  · exact does_handLoss ..

/-- 10 R168: the drop of a station whose record carries its failure already. -/
def StationRecord.dropDeed (r : StationRecord) (st : StationId) (now : Time) (mode : RecoveryMode) : Deed :=
  let r' := { r with score := 255, cleanCalls := 0, waits := 0, leaveRequested := false }
  if mode = .holdAtDrop then
    ⟨{ r' with state := .held }, [.stationState st r.state .held .holdAtDrop 255 0 r.errors now],
      r.loss st .held, []⟩
  else
    ⟨{ r' with state := .dropped }, [.stationState st r.state .dropped .drop 255 0 r.errors now],
      r.loss st .dropped, []⟩

theorem drop_eq (s : State) (st : StationId) (r : StationRecord) :
    s.drop st r = s.does st (r.dropDeed st s.time (s.lane st.lane).settings.recovery) := by
  rw [State.drop, StationRecord.dropDeed]
  cases (s.lane st.lane).settings.recovery <;> simp only [stateChange_eq, does_lossIfHolding, reduceCtorEq,
    if_true, if_false] <;> rfl

/-- 10 R165, R167, R168: a failure of a served station. -/
def StationRecord.failDeed (r : StationRecord) (st : StationId) (now : Time) (settings : LaneSettings)
    (k : FailureKind) : Deed :=
  let r' := { r with waits := 0, errors := recordFailure settings.errors r.errors k }
  if 255 < r.score + 8 then r'.dropDeed st now settings.recovery
  else if r.state = .good ∧ 96 ≤ r.score + 8 then
    ⟨{ r' with state := .doubtful, score := r.score + 8 },
      [.stationState st .good .doubtful .scoreUp (r.score + 8) r.cleanCalls r'.errors now], [], []⟩
  else ⟨{ r' with score := r.score + 8 }, [], [], []⟩

theorem failServed_eq (s : State) (st : StationId) (k : FailureKind) :
    s.failServed st k =
      s.does st ((s.station st).failDeed st s.time (s.lane st.lane).settings k) := by
  simp only [State.failServed, StationRecord.failDeed]
  split_ifs
  · exact drop_eq ..
  · exact stateChange_eq ..
  · exact (does_record ..).symm

/-- 10 R165, R167: an exchange of a served station that passes. -/
def StationRecord.passDeed (r : StationRecord) (st : StationId) (now : Time) (waits : Nat) : Deed :=
  ⟨r.passed waits, r.passedReports st now, [], []⟩

theorem queueReports_eq (s : State) (rs : List Report) :
    s.queueReports rs = { s with office := s.office.reported rs } := by
  induction rs generalizing s with
  | nil => rfl
  | cons r rs ih => exact ih (s.queueReport r)

theorem passServed_does (s : State) (st : StationId) (waits : Nat) :
    s.passServed st waits = s.does st ((s.station st).passDeed st s.time waits) := by
  rw [passServed_eq, queueReports_eq]
  simp only [State.does, StationRecord.passDeed, List.append_nil, State.setStation_office]
  simp

/-- 10 R166: the scoring of a valid answer. -/
def StationRecord.scoreDeed (r : StationRecord) (st : StationId) (now : Time) (settings : LaneSettings)
    (a : Answer) : Deed :=
  if a.kind = .wait then
    if settings.waitLimit ≤ r.waits + 1 then r.failDeed st now settings .waitLimit
    else r.passDeed st now (r.waits + 1)
  else r.passDeed st now 0

theorem scoreValid_eq (s : State) (st : StationId) (a : Answer) :
    s.scoreValid st a = s.does st ((s.station st).scoreDeed st s.time (s.lane st.lane).settings a) := by
  simp only [State.scoreValid, StationRecord.scoreDeed]
  split_ifs
  · exact failServed_eq ..
  · exact passServed_does ..
  · exact passServed_does ..

/-- 10 R169, R170: a clean call of a DROPPED station. -/
def StationRecord.callDeed (r : StationRecord) (st : StationId) (now : Time) (mode : RecoveryMode) : Deed :=
  let n := min (r.cleanCalls + 1) 32
  let r' := { r with cleanCalls := n }
  if n = 32 then
    match mode with
    | .auto =>
      ⟨{ r with state := .good, score := 0, cleanCalls := 0, waits := 0 },
        [.stationState st .dropped .good .recovered 0 0 r.errors now], [], []⟩
    | .holdAfter =>
      ⟨{ r' with state := .held }, [.stationState st .dropped .held .holdAfter r.score n r.errors now],
        r.loss st .held, []⟩
    | _ => ⟨r', [], [], []⟩
  else ⟨r', [], [], []⟩

theorem cleanCall_eq (s : State) (st : StationId) :
    s.cleanCall st =
      s.does st ((s.station st).callDeed st s.time (s.lane st.lane).settings.recovery) := by
  simp only [State.cleanCall, StationRecord.callDeed]
  split
  · cases (s.lane st.lane).settings.recovery <;>
      simp only [stateChange_eq, does_lossIfHolding, does_record] <;> rfl
  · exact (does_record ..).symm

/-! ### Joining, leaving and admission -/

/-- 09 R154: the admission of a request. -/
def StationRecord.admitDeed (r : StationRecord) (st : StationId) (n : Byte) (q : StationRequest) : Deed :=
  if r.lastRequest = some n then ⟨r, [], [], []⟩
  else if r.outstanding ≠ none then ⟨{ r with busy := some n }, [], [], []⟩
  else if r.state = .pending then
    ⟨{ r with lastRequest := some n, outstanding := some ⟨n, false⟩
              slot := some ⟨n, .notServing, false⟩ }, [], [], []⟩
  else ⟨{ r with lastRequest := some n, outstanding := some ⟨n, false⟩ }, [], [], [.station st n q]⟩

theorem admitRequest_eq (s : State) (st : StationId) (n : Byte) (q : StationRequest) :
    s.admitRequest st n q = s.does st ((s.station st).admitDeed st n q) := by
  simp only [State.admitRequest, StationRecord.admitDeed]
  split_ifs
  · exact (does_nothing ..).symm
  · exact (does_record ..).symm
  · exact (does_record ..).symm
  · rw [← does_record, does_enqueue]
    rfl

/-- 09 R158: a LEAVE answer of a GOOD or DOUBTFUL station. -/
def StationRecord.leaveDeed (r : StationRecord) (st : StationId) : Deed :=
  if r.contextFlag = none then ⟨{ r with state := .leaving }, [.stationLeaving st], [], []⟩
  else ⟨{ r with leaveRequested := true }, [], [], []⟩

theorem leaveAnswer_eq (s : State) (st : StationId) :
    s.leaveAnswer st = s.does st ((s.station st).leaveDeed st) := by
  simp only [State.leaveAnswer, StationRecord.leaveDeed]
  split_ifs
  · rw [← does_record, does_queueReport]
    rfl
  · exact (does_record ..).symm

theorem stationGone_eq (s : State) (st : StationId) (cause : GoneCause) :
    s.stationGone st cause =
      s.does st ⟨(s.station st).departed cause, [.stationGone st cause], [], []⟩ := by
  rw [State.stationGone, ← does_record, does_queueReport]
  rfl

/-- 09 R153: an answer's kind by the station's state. -/
def StationRecord.answerDeed (r : StationRecord) (st : StationId) (k : PollKind) (a : Answer) : Deed :=
  match r.state with
  | .absent =>
    match k, a.kind with
    | .rollCall, .join => ⟨{ r with state := .pending, silent := 0 }, [.stationJoined st], [], []⟩
    | _, _ => ⟨r, [], [], []⟩
  | .pending =>
    match a.kind with
    | .request q => ({ r with silent := 0 } : StationRecord).admitDeed st a.number q
    | .leave => ⟨({ r with silent := 0 } : StationRecord).departed .leave, [.stationGone st .leave], [], []⟩
    | _ => ⟨{ r with silent := 0 }, [], [], []⟩
  | .good | .doubtful =>
    match a.kind with
    | .request q => r.admitDeed st a.number q
    | .leave => r.leaveDeed st
    | _ => ⟨r, [], [], []⟩
  | .leaving =>
    match a.kind with
    | .request q => r.admitDeed st a.number q
    | _ => ⟨r, [], [], []⟩
  | .dropped | .held => ⟨r, [], [], []⟩

theorem takeAnswer_eq (s : State) (st : StationId) (k : PollKind) (a : Answer) :
    s.takeAnswer st k a = s.does st ((s.station st).answerDeed st k a) := by
  have hjoin : s.join st =
      s.does st ⟨{ s.station st with state := .pending, silent := 0 }, [.stationJoined st], [], []⟩ := by
    rw [State.join, ← does_record, does_queueReport]
    rfl
  cases hs : (s.station st).state <;> cases hk : a.kind <;> cases k <;>
    simp [State.takeAnswer, StationRecord.answerDeed, hs, hk, does_record, admitRequest_eq, leaveAnswer_eq,
      stationGone_eq, hjoin, setStation_does]

/-- 09 R153: a valid answer read for its confirmation and its kind. -/
theorem readValid_eq (s : State) (st : StationId) (k : PollKind) (a : Answer) :
    s.readValid st k a =
      s.does st (((s.station st).confirm a.lastSeen).answerDeed st k a) := by
  rw [State.readValid, takeAnswer_eq, station_setStation, setStation_does]

/-- 09 R156: a roll-call that ends in no valid answer at a PENDING address. -/
def StationRecord.silentDeed (r : StationRecord) (st : StationId) : Deed :=
  if 8 ≤ r.silent + 1 then ⟨r.madeAbsent, [.stationGone st .silence], [], []⟩
  else ⟨{ r with silent := r.silent + 1 }, [], [], []⟩

theorem silentCall_eq (s : State) (st : StationId) :
    s.silentCall st = s.does st ((s.station st).silentDeed st) := by
  simp only [State.silentCall, StationRecord.silentDeed]
  split_ifs
  · rw [stationGone_eq, station_setStation, setStation_does]
    rfl
  · exact (does_record ..).symm

/-! ### The end of an exchange -/

/-- 10 R164: what the outcome of an exchange does, by the state the station then holds. -/
def StationRecord.endDeed (r : StationRecord) (st : StationId) (now : Time) (settings : LaneSettings)
    (k : PollKind) : ExchangeEnd → Deed
  | .valid a =>
    match r.state with
    | .good | .doubtful | .leaving =>
      let d := (r.confirm a.lastSeen).answerDeed st k a
      d.andThen (d.record.scoreDeed st now settings a)
    | .dropped =>
      let d := (r.confirm a.lastSeen).answerDeed st k a
      d.andThen (d.record.callDeed st now settings.recovery)
    | .absent | .pending => (r.confirm a.lastSeen).answerDeed st k a
    | .held => ⟨r, [], [], []⟩
  | .failure kind =>
    match r.state with
    | .good | .doubtful | .leaving => r.failDeed st now settings kind
    | .dropped =>
      ⟨{ r with cleanCalls := 0, errors := recordFailure settings.errors r.errors kind }, [], [], []⟩
    | .pending => r.silentDeed st
    | .absent | .held => ⟨r, [], [], []⟩

section EndExchange

variable (s : State) (l : Lane) (x : Exchange)

theorem station_clearExchange (st : StationId) : (s.clearExchange l x).station st = s.station st := by
  obtain ⟨m, a⟩ := st
  show ((s.clearExchange l x).lane m).stations.get a = _
  by_cases h : m = l
  · subst h
    rw [show (s.clearExchange m x).lane m = _ from lane_setLane ..]
    rfl
  · rw [show (s.clearExchange l x).lane m = _ from lane_setLane_other _ h _]
    rfl

theorem settings_clearExchange (m : Lane) :
    ((s.clearExchange l x).lane m).settings = (s.lane m).settings := by
  by_cases h : m = l
  · subst h
    rw [show (s.clearExchange m x).lane m = _ from lane_setLane ..]
  · rw [show (s.clearExchange l x).lane m = _ from lane_setLane_other _ h _]

theorem time_clearExchange : (s.clearExchange l x).time = s.time := by
  simp [State.clearExchange, State.time]

theorem endExchange_eq (e : ExchangeEnd) : s.endExchange l x e =
    (s.clearExchange l x).does ⟨l, x.poll.addr⟩
      ((s.station ⟨l, x.poll.addr⟩).endDeed ⟨l, x.poll.addr⟩ s.time (s.lane l).settings x.poll.kind e) := by
  have hst := station_clearExchange s l x ⟨l, x.poll.addr⟩
  have hset := settings_clearExchange s l x l
  have hnow := time_clearExchange s l x
  cases e with
  | valid a =>
    cases hs : (s.station ⟨l, x.poll.addr⟩).state <;>
      simp only [State.endExchange, StationRecord.endDeed, hs, readValid_eq, scoreValid_eq, cleanCall_eq, does_does,
        does_station, does_settings, does_time, hst, hset, hnow]
    rw [← hst, does_nothing]
  | failure k =>
    cases hs : (s.station ⟨l, x.poll.addr⟩).state <;>
      simp only [State.endExchange, StationRecord.endDeed, hs, failServed_eq, silentCall_eq, does_record, hst, hset, hnow]
    all_goals rw [← hst, setStation_station]

end EndExchange

end Sys2Proof.Machine


/-! PROOFS. The rows of chapters 9 and 10 for an exchange that ends: a REQUEST answer, another valid answer, and a
failure. -/

namespace Sys2Proof.Machine

open Sys2Proof

/-! ### The confirmation (09 R153) -/

theorem confirm_eq (r : StationRecord) (seen : Option Byte) :
    (∃ x, r.slot = some x ∧ x.sent = true ∧ seen = some x.request) ∧
        r.confirm seen = { r with slot := none, outstanding := none } ∨
      (∀ x, r.slot = some x → x.sent = true → seen ≠ some x.request) ∧ r.confirm seen = r := by
  unfold StationRecord.confirm
  cases hs : r.slot with
  | none => exact .inr ⟨nofun, rfl⟩
  | some x =>
    by_cases h : x.sent = true ∧ seen = some x.request
    · exact .inl ⟨⟨x, rfl, h⟩, if_pos h⟩
    · refine .inr ⟨fun y hy h1 h2 => ?_, if_neg h⟩
      cases hy
      exact h ⟨h1, h2⟩

theorem confirm_confirms (r : StationRecord) (seen : Option Byte) : Confirms r seen (r.confirm seen) := by
  rcases confirm_eq r seen with ⟨⟨x, hx, hsent, hseen⟩, he⟩ | ⟨hnot, he⟩
  · exact ⟨fun _ _ _ _ => he, fun h => absurd hseen (h x hx hsent)⟩
  · exact ⟨fun x hx hsent hseen => absurd hseen (hnot x hx hsent), fun _ => he⟩

@[simp] theorem confirm_state (r : StationRecord) (seen : Option Byte) :
    (r.confirm seen).state = r.state := by
  rcases confirm_eq r seen with ⟨-, he⟩ | ⟨-, he⟩ <;> rw [he]

/-! ### An exchange that ends -/

/-- What the end of an exchange leaves: the deed at its station, the exchange over, and nothing else. -/
structure Ended (s : State) (l : Lane) (x : Exchange) (d : Deed) (t : State) : Prop where
  station : t.station ⟨l, x.poll.addr⟩ = d.record
  stations : ∀ su, su ≠ ⟨l, x.poll.addr⟩ → t.station su = s.station su
  lanes : s.ExchangeOver l x.poll.kind t
  office : t.office = s.office.reported d.reports
  sale : t.sale = { s.sale with losses := s.sale.losses ++ d.losses, queue := s.sale.queue ++ d.works }
  others : t.hall = s.hall ∧ t.decoder = s.decoder ∧ t.tariff = s.tariff ∧ t.clock = s.clock ∧
    t.totals = s.totals ∧ t.pending = s.pending

theorem clearExchange_does_ended (s : State) (l : Lane) (x : Exchange) (d : Deed) :
    Ended s l x d ((s.clearExchange l x).does ⟨l, x.poll.addr⟩ d) where
  station := does_station ..
  stations := fun _ h => (does_station_other _ _ _ h).trans (station_clearExchange ..)
  lanes := by
    have hclear : (s.clearExchange l x).lane l = { s.lane l with
        exchange := none
        position := if x.poll.kind = .rollCall then some 0 else (s.lane l).position } := by
      rw [show (s.clearExchange l x).lane l = _ from lane_setLane ..]
      cases x.poll.kind <;> rfl
    refine ⟨?_, fun m hm => ?_⟩
    · rw [does_lanes _ _ _ l, hclear]
    · have hne : ∀ a, (⟨m, a⟩ : StationId) ≠ ⟨l, x.poll.addr⟩ := fun a h => hm (congrArg StationId.lane h)
      have hstations : ((((s.clearExchange l x).does ⟨l, x.poll.addr⟩ d).lane m).stations) =
          (s.lane m).stations :=
        Eight.ext_get fun a => (does_station_other _ _ d (hne a)).trans (station_clearExchange s l x ⟨m, a⟩)
      rw [does_lanes _ _ _ m, hstations, show (s.clearExchange l x).lane m = _ from lane_setLane_other _ hm _]
  office := by simp [State.clearExchange]
  sale := by simp [State.clearExchange]
  others := by
    obtain ⟨h1, h2, h3, h4, h5, h6⟩ := does_others (s.clearExchange l x) ⟨l, x.poll.addr⟩ d
    rw [h1, h2, h3, h4, h5, h6]
    simp [State.clearExchange]

/-- The deed of an exchange's end. -/
def State.endDeed (s : State) (l : Lane) (x : Exchange) (e : ExchangeEnd) : Deed :=
  (s.station ⟨l, x.poll.addr⟩).endDeed ⟨l, x.poll.addr⟩ s.time (s.lane l).settings x.poll.kind e

theorem endExchange_ended (s : State) (l : Lane) (x : Exchange) (e : ExchangeEnd) :
    Ended s l x (s.endDeed l x e) (s.endExchange l x e) := by
  rw [endExchange_eq]
  exact clearExchange_does_ended s l x _

section Exec

variable {s : State} {l : Lane} {x : Exchange} {bytes got : List Byte}

theorem exec_laneAnswer (hr : s.running = true) (hx : (s.lane l).exchange = some x)
    (hc : collectAnswer x.received bytes = (got, true)) :
    exec (.laneAnswer l bytes) s = .next (s.endExchange l x (frameOutcome x.poll.addr got)) := by
  show whenRunning s _ = _
  rw [whenRunning_running hr]
  simp only [hx, hc, if_true]

theorem exec_laneAnswer_part (hr : s.running = true) (hx : (s.lane l).exchange = some x)
    (hc : collectAnswer x.received bytes = (got, false)) :
    exec (.laneAnswer l bytes) s =
      .next (s.setLane l { s.lane l with exchange := some { x with received := got } }) := by
  show whenRunning s _ = _
  rw [whenRunning_running hr]
  simp only [hx, hc, reduceCtorEq, if_false]

theorem exec_answerTimeout (hr : s.running = true) (hx : (s.lane l).exchange = some x) :
    exec (.answerTimeout l) s =
      .next (s.endExchange l x (.failure (if x.received = [] then .noAnswer else .badForm))) := by
  show whenRunning s _ = _
  rw [whenRunning_running hr]
  simp only [hx]

theorem frameOutcome_valid {a : Answer} {addr : Fin 8} (hf : readLaneFrame got = .answer a)
    (ha : a.address.toNat = addr.val + 1) : frameOutcome addr got = .valid a := by
  simp only [frameOutcome, hf, if_pos ha]

end Exec

/-! ### A valid answer -/

theorem endDeed_served {r : StationRecord} (h : r.state.served = true) (st : StationId) (now : Time)
    (settings : LaneSettings) (k : PollKind) (a : Answer) :
    r.endDeed st now settings k (.valid a) =
      ((r.confirm a.lastSeen).answerDeed st k a).andThen
        (((r.confirm a.lastSeen).answerDeed st k a).record.scoreDeed st now settings a) := by
  rcases (served_iff _).2 h with hs | hs | hs <;> simp only [StationRecord.endDeed, hs]

theorem scoreDeed_pass {a : Answer} (h : a.kind ≠ .wait) (r : StationRecord) (st : StationId) (now : Time)
    (settings : LaneSettings) : r.scoreDeed st now settings a = r.passDeed st now 0 := if_neg h

theorem answerDeed_request {r : StationRecord} (h : r.state.served = true) {a : Answer} {q : StationRequest}
    (hk : a.kind = .request q) (st : StationId) (k : PollKind) :
    r.answerDeed st k a = r.admitDeed st a.number q := by
  rcases (served_iff _).2 h with hs | hs | hs <;> simp only [StationRecord.answerDeed, hs, hk]

/-- A REQUEST of a served station: it is admitted, and the exchange passes. -/
theorem endDeed_request {r : StationRecord} (h : r.state.served = true) {a : Answer} {q : StationRequest}
    (hk : a.kind = .request q) (st : StationId) (now : Time) (settings : LaneSettings) (k : PollKind) :
    r.endDeed st now settings k (.valid a) =
      ((r.confirm a.lastSeen).admitDeed st a.number q).andThen
        (((r.confirm a.lastSeen).admitDeed st a.number q).record.passDeed st now 0) := by
  rw [endDeed_served h, answerDeed_request (by simpa using h) hk, scoreDeed_pass (by rw [hk]; exact nofun)]

theorem endDeed_request_pending {r : StationRecord} (h : r.state = .pending) {a : Answer}
    {q : StationRequest} (hk : a.kind = .request q) (st : StationId) (now : Time) (settings : LaneSettings)
    (k : PollKind) :
    r.endDeed st now settings k (.valid a) =
      ({ r.confirm a.lastSeen with silent := 0 } : StationRecord).admitDeed st a.number q := by
  simp only [StationRecord.endDeed, h, StationRecord.answerDeed, confirm_state, hk]

section Admit

variable {r : StationRecord} {st : StationId} {n : Byte} {q : StationRequest}

theorem admitDeed_repeat (h : r.lastRequest = some n) : r.admitDeed st n q = ⟨r, [], [], []⟩ := if_pos h

theorem admitDeed_busy (h : r.lastRequest ≠ some n) (ho : r.outstanding ≠ none) :
    r.admitDeed st n q = ⟨{ r with busy := some n }, [], [], []⟩ :=
  (if_neg h).trans (if_pos ho)

theorem admitDeed_pending (h : r.lastRequest ≠ some n) (ho : r.outstanding = none)
    (hs : r.state = .pending) : r.admitDeed st n q =
      ⟨{ r with lastRequest := some n, outstanding := some ⟨n, false⟩
                slot := some ⟨n, .notServing, false⟩ }, [], [], []⟩ :=
  (if_neg h).trans ((if_neg (not_not.2 ho)).trans (if_pos hs))

theorem admitDeed_queued (h : r.lastRequest ≠ some n) (ho : r.outstanding = none)
    (hs : r.state ≠ .pending) : r.admitDeed st n q =
      ⟨{ r with lastRequest := some n, outstanding := some ⟨n, false⟩ }, [], [], [.station st n q]⟩ :=
  (if_neg h).trans ((if_neg (not_not.2 ho)).trans (if_neg hs))

end Admit

theorem sale_unchanged (e : SaleEngine) : { e with losses := e.losses ++ [], queue := e.queue ++ [] } = e := by
  simp

/-- Settles O54: the four tests of R154 in order, for a served station scored after them. -/
theorem requestAnswered : Obligations.RequestAnswered := by
  intro s l x bytes got hr hx
  refine ⟨exec_laneAnswer_part hr hx, ?_⟩
  intro a q hc hf ha hk st r scored
  refine ⟨confirm_confirms .., fun hstate => ?_⟩
  have hsent := exec_laneAnswer hr hx hc
  rw [frameOutcome_valid hf ha] at hsent
  obtain ⟨hst, hsts, hlanes, hoffice, hsale, hhall, hdecoder, htariff, hclock, htotals, -⟩ :=
    endExchange_ended s l x (.valid a)
  have hrs : r.state = (s.station st).state := confirm_state ..
  by_cases hp : r.state = .pending
  · have hdeed : s.endDeed l x (.valid a) = ({ r with silent := 0 } : StationRecord).admitDeed st a.number q :=
      endDeed_request_pending (hrs ▸ hp) hk ..
    rw [hdeed] at hst hoffice hsale
    have hscored : ∀ y, scored y = { y with silent := 0 } := fun y => if_pos hp
    refine ⟨_, hsent, hlanes, hsts, ?_, hhall, hdecoder, htariff, hclock, htotals, fun h => ?_, fun h ho => ?_,
      fun h ho _ => ?_, fun _ _ hne => absurd hp hne⟩
    · rw [hoffice, if_pos hp]
      unfold StationRecord.admitDeed
      split_ifs <;> rfl
    · rw [admitDeed_repeat (by exact h)] at hst hsale
      exact ⟨hsale.trans (sale_unchanged _), by rw [hst, hscored]⟩
    · rw [admitDeed_busy (by exact h) (by exact ho)] at hst hsale
      exact ⟨hsale.trans (sale_unchanged _), by rw [hst, hscored]⟩
    · rw [admitDeed_pending (by exact h) (by exact ho) (by exact hp)] at hst hsale
      exact ⟨hsale.trans (sale_unchanged _), by rw [hst]⟩
  · have hserved : r.state.served = true := (served_iff _).1 (by tauto)
    have hdeed : s.endDeed l x (.valid a) =
        (r.admitDeed st a.number q).andThen ((r.admitDeed st a.number q).record.passDeed st s.time 0) :=
      endDeed_request (hrs ▸ hserved) hk ..
    rw [hdeed] at hst hoffice hsale
    have hscored : ∀ y, scored y = y.passed 0 := fun y => if_neg hp
    refine ⟨_, hsent, hlanes, hsts, ?_, hhall, hdecoder, htariff, hclock, htotals, fun h => ?_, fun h ho => ?_,
      fun _ _ h => absurd h hp, fun h ho _ => ?_⟩
    · rw [hoffice, if_neg hp]
      unfold StationRecord.admitDeed
      split_ifs <;> rfl
    · rw [admitDeed_repeat h] at hst hsale
      exact ⟨hsale.trans (sale_unchanged _), hst.trans (hscored _).symm⟩
    · rw [admitDeed_busy h ho] at hst hsale
      exact ⟨hsale.trans (sale_unchanged _), hst.trans (hscored _).symm⟩
    · rw [admitDeed_queued h ho hp] at hst hsale
      exact ⟨hsale.trans (by simp [Deed.andThen, StationRecord.passDeed]), hst.trans (hscored _).symm⟩

/-! ### Any other valid answer -/

/-- The end of an exchange that leaves its station the record `y`, with the reports and loss events given out. -/
theorem ended_becomes {s : State} {l : Lane} {x : Exchange} {e : ExchangeEnd} {i : Instr}
    (hsent : exec i s = .next (s.endExchange l x e)) {y : StationRecord} {reports : List Report}
    {losses : List Loss} (hd : s.endDeed l x e = ⟨y, reports, losses, []⟩) :
    ∃ t : State, exec i s = .next t ∧ t.station ⟨l, x.poll.addr⟩ = y ∧ s.ExchangeOver l x.poll.kind t ∧
      t.office = s.office.reported reports ∧
      (∀ su, su ≠ ⟨l, x.poll.addr⟩ → t.station su = s.station su) ∧
      t.sale = { s.sale with losses := s.sale.losses ++ losses } ∧ t.hall = s.hall ∧
      t.decoder = s.decoder ∧ t.tariff = s.tariff ∧ t.clock = s.clock ∧ t.totals = s.totals := by
  obtain ⟨hst, hsts, hlanes, hoffice, hsale, hhall, hdecoder, htariff, hclock, htotals, -⟩ :=
    endExchange_ended s l x e
  rw [hd] at hst hoffice hsale
  exact ⟨_, hsent, hst, hlanes, hoffice, hsts, hsale.trans (by simp), hhall, hdecoder, htariff, hclock, htotals⟩

section Rows

variable {r : StationRecord} {st : StationId} {now : Time} {settings : LaneSettings} {k : PollKind}
  {a : Answer}

/-- The deed of a valid answer that passes, read as the deed `d`. -/
theorem endDeed_read {d : Deed} (h : r.state.served = true)
    (hd : (r.confirm a.lastSeen).answerDeed st k a = d) :
    r.endDeed st now settings k (.valid a) = d.andThen (d.record.scoreDeed st now settings a) := by
  rw [endDeed_served h, hd]

theorem answerDeed_join (hs : r.state = .absent) (ha : a.kind = .join) :
    r.answerDeed st .rollCall a = ⟨{ r with state := .pending, silent := 0 }, [.stationJoined st], [], []⟩ := by
  simp only [StationRecord.answerDeed, hs, ha]

theorem answerDeed_absent (hs : r.state = .absent) (h : a.kind ≠ .join ∨ k ≠ .rollCall) :
    r.answerDeed st k a = ⟨r, [], [], []⟩ := by
  simp only [StationRecord.answerDeed, hs]
  split
  next ha => exact absurd ha (h.resolve_right fun hk => hk rfl)
  next => rfl

theorem answerDeed_gone (hs : r.state = .pending) (ha : a.kind = .leave) :
    r.answerDeed st k a =
      ⟨{ StationRecord.initial with
          contextFlag := r.contextFlag
          outstanding := r.outstanding.filter fun o => o.orphaned },
        [.stationGone st .leave], [], []⟩ := by
  simp only [StationRecord.answerDeed, hs, ha, StationRecord.departed, StationRecord.madeAbsent]

theorem answerDeed_pending (hs : r.state = .pending)
    (ha : a.kind = .nothing ∨ a.kind = .wait ∨ a.kind = .join) :
    r.answerDeed st k a = ⟨{ r with silent := 0 }, [], [], []⟩ := by
  rcases ha with ha | ha | ha <;> simp only [StationRecord.answerDeed, hs, ha]

theorem answerDeed_leave (hs : r.state = .good ∨ r.state = .doubtful) (ha : a.kind = .leave) :
    r.answerDeed st k a = r.leaveDeed st := by
  rcases hs with hs | hs <;> simp only [StationRecord.answerDeed, hs, ha]

theorem answerDeed_served (hs : r.state.served = true)
    (ha : a.kind = .nothing ∨ a.kind = .wait ∨ a.kind = .join ∨ r.state = .leaving ∧ a.kind = .leave) :
    r.answerDeed st k a = ⟨r, [], [], []⟩ := by
  rcases (served_iff _).2 hs with hs | hs | hs <;> rcases ha with ha | ha | ha | ⟨hl, ha⟩ <;>
    simp_all [StationRecord.answerDeed]

theorem answerDeed_dropped (hs : r.state = .dropped) : r.answerDeed st k a = ⟨r, [], [], []⟩ := by
  simp only [StationRecord.answerDeed, hs]

theorem endDeed_unserved (hs : r.state = .absent ∨ r.state = .pending) :
    r.endDeed st now settings k (.valid a) = (r.confirm a.lastSeen).answerDeed st k a := by
  rcases hs with hs | hs <;> simp only [StationRecord.endDeed, hs]

theorem endDeed_dropped (hs : r.state = .dropped) :
    r.endDeed st now settings k (.valid a) = (r.confirm a.lastSeen).callDeed st now settings.recovery := by
  have hread : (r.confirm a.lastSeen).answerDeed st k a = ⟨r.confirm a.lastSeen, [], [], []⟩ :=
    answerDeed_dropped (by simpa using hs)
  simp only [StationRecord.endDeed, hs, hread, Deed.andThen, List.nil_append]

end Rows

/-- Settles O55: the rows by the station's state and the answer's kind. -/
theorem joinAndLeave : Obligations.JoinAndLeave := by
  intro s l x bytes got a hr hx hc hf ha st r settings becomes served
  have hsent := exec_laneAnswer hr hx hc
  rw [frameOutcome_valid hf ha] at hsent
  have hrs : r.state = (s.station st).state := confirm_state ..
  have hbecomes : ∀ {y reports losses}, s.endDeed l x (.valid a) = ⟨y, reports, losses, []⟩ →
      becomes y reports losses := fun hd => ended_becomes hsent hd
  have hunserved : ∀ {d}, r.state = .absent ∨ r.state = .pending → r.answerDeed st x.poll.kind a = d →
      s.endDeed l x (.valid a) = d := fun hs hd => (endDeed_unserved (hrs ▸ hs)).trans hd
  have hscored : ∀ {d}, r.state.served = true → r.answerDeed st x.poll.kind a = d →
      s.endDeed l x (.valid a) = d.andThen (d.record.scoreDeed st s.time settings a) :=
    fun hs hd => endDeed_read (hrs ▸ hs) hd
  refine ⟨confirm_confirms .., fun hs hj hk => ?_, fun hs h => ?_, fun hs hl => ?_, fun hs h => ?_,
    fun hs hl hflag => ?_, fun hs hl hflag => ?_, fun hs h => ?_, fun hs hw hlimit => ?_, fun hs => ?dropped⟩
  · exact hbecomes (hunserved (.inl hs) (by rw [hk]; exact answerDeed_join hs hj))
  · exact hbecomes (hunserved (.inl hs) (answerDeed_absent hs h))
  · exact hbecomes (hunserved (.inr hs) (answerDeed_gone hs hl))
  · exact hbecomes (hunserved (.inr hs) (answerDeed_pending hs h))
  · have hd := hscored ((served_iff _).1 (by tauto)) ((answerDeed_leave hs hl).trans (if_pos hflag))
    refine hbecomes (hd.trans ?_)
    rw [scoreDeed_pass (by rw [hl]; exact nofun)]
    simp [Deed.andThen, StationRecord.passDeed, StationRecord.passed, StationRecord.passedReports]
  · have hd := hscored ((served_iff _).1 (by tauto)) ((answerDeed_leave hs hl).trans (if_neg hflag))
    refine hbecomes (hd.trans ?_)
    rw [scoreDeed_pass (by rw [hl]; exact nofun)]
    rfl
  · have hserved : r.state.served = true := (served_iff _).1 hs
    have hd := hscored hserved (answerDeed_served hserved (by tauto))
    refine hbecomes (hd.trans ?_)
    rw [scoreDeed_pass (by rcases h with h | h | ⟨-, h⟩ <;> rw [h] <;> exact nofun)]
    rfl
  · have hserved : r.state.served = true := (served_iff _).1 hs
    have hd := hscored hserved (answerDeed_served hserved (.inr (.inl hw)))
    refine hbecomes (hd.trans ?_)
    rw [StationRecord.scoreDeed, if_pos hw, if_neg (by exact Nat.not_le.2 hlimit)]
    rfl
  case dropped =>
    intro calls
    have hd : s.endDeed l x (.valid a) = r.callDeed st s.time settings.recovery := endDeed_dropped (hrs ▸ hs)
    refine ⟨fun h => ?_, fun h hm => ?_, fun h hm => ?_, fun h hm => ?_⟩
    · exact hbecomes (hd.trans (if_neg (by exact h.ne)))
    · refine hbecomes (hd.trans ((if_pos h).trans ?_))
      rw [hm]
    · refine hbecomes (hd.trans ((if_pos h).trans ?_))
      rw [hm, show min (r.cleanCalls + 1) 32 = 32 from h]
      rfl
    · refine hbecomes (hd.trans ((if_pos h).trans ?_))
      rw [show min (r.cleanCalls + 1) 32 = 32 from h]
      rcases hm with hm | hm <;> rw [hm]

/-! ### A failure -/

theorem recordFailure_records (m : ErrorMode) (f : FailureSet) (k : FailureKind) :
    RecordsFailure m f k (recordFailure m f k) := by
  have hadd : ∀ j, (f.add k).has j = true ↔ j = k ∨ f.has j = true := by
    intro j
    cases j <;> cases k <;> simp [FailureSet.add, FailureSet.has]
  cases m with
  | all => exact ⟨fun _ => hadd, nofun⟩
  | first =>
    by_cases hf : f = .empty
    · exact ⟨fun _ => by rw [recordFailure, if_pos hf]; exact hadd, fun _ h => absurd hf h⟩
    · exact ⟨fun h => absurd (h.resolve_left nofun) hf, fun _ _ => if_neg hf⟩

/-- How an exchange of lane `l` ends in a failure: `r` is its station's record as the failure finds it. -/
def State.FailsBy (s : State) (l : Lane) (x : Exchange) (i : Instr) (kind : FailureKind) (r : StationRecord) :
    Prop :=
  i = .answerTimeout l ∧ kind = (if x.received = [] then .noAnswer else .badForm) ∧
      r = s.station ⟨l, x.poll.addr⟩ ∨
    ∃ bytes got, i = .laneAnswer l bytes ∧ collectAnswer x.received bytes = (got, true) ∧
      (readLaneFrame got = .badCheck ∧ kind = .badCheck ∧ r = s.station ⟨l, x.poll.addr⟩ ∨
        readLaneFrame got = .badForm ∧ kind = .badForm ∧ r = s.station ⟨l, x.poll.addr⟩ ∨
        ∃ a, readLaneFrame got = .answer a ∧
          (a.address.toNat ≠ x.poll.addr.val + 1 ∧ kind = .wrongAddress ∧ r = s.station ⟨l, x.poll.addr⟩ ∨
            a.address.toNat = x.poll.addr.val + 1 ∧ a.kind = .wait ∧ kind = .waitLimit ∧
              r = (s.station ⟨l, x.poll.addr⟩).confirm a.lastSeen ∧
              (r.state = .good ∨ r.state = .doubtful ∨ r.state = .leaving) ∧
              (s.lane l).settings.waitLimit ≤ r.waits + 1))

theorem frameOutcome_badCheck {got : List Byte} (h : readLaneFrame got = .badCheck) (addr : Fin 8) :
    frameOutcome addr got = .failure .badCheck := by
  simp only [frameOutcome, h]

theorem frameOutcome_badForm {got : List Byte} (h : readLaneFrame got = .badForm) (addr : Fin 8) :
    frameOutcome addr got = .failure .badForm := by
  simp only [frameOutcome, h]

theorem frameOutcome_wrongAddress {got : List Byte} {a : Answer} {addr : Fin 8}
    (h : readLaneFrame got = .answer a) (ha : a.address.toNat ≠ addr.val + 1) :
    frameOutcome addr got = .failure .wrongAddress := by
  simp only [frameOutcome, h, if_neg ha]

theorem endDeed_fail {r : StationRecord} {st : StationId} {now : Time} {settings : LaneSettings}
    {k : PollKind} {kind : FailureKind} (h : r.state = .good ∨ r.state = .doubtful ∨ r.state = .leaving) :
    r.endDeed st now settings k (.failure kind) = r.failDeed st now settings kind := by
  rcases h with h | h | h <;> simp only [StationRecord.endDeed, h]

/-- A failure's deed is that of the record the failure finds. -/
theorem failsBy_deed {s : State} {l : Lane} {x : Exchange} {i : Instr} {kind : FailureKind}
    {r : StationRecord} (hr : s.running = true) (hx : (s.lane l).exchange = some x)
    (h : s.FailsBy l x i kind r) : ∃ e, exec i s = .next (s.endExchange l x e) ∧
      s.endDeed l x e =
        r.endDeed ⟨l, x.poll.addr⟩ s.time (s.lane l).settings x.poll.kind (.failure kind) := by
  rcases h with ⟨rfl, rfl, rfl⟩ | ⟨bytes, got, rfl, hc, h⟩
  · exact ⟨_, exec_answerTimeout hr hx, rfl⟩
  · refine ⟨_, exec_laneAnswer hr hx hc, ?_⟩
    rcases h with ⟨hf, rfl, rfl⟩ | ⟨hf, rfl, rfl⟩ | ⟨a, hf, ⟨ha, rfl, rfl⟩ | ⟨ha, hw, rfl, rfl, hs, hlimit⟩⟩
    · rw [frameOutcome_badCheck hf, State.endDeed]
    · rw [frameOutcome_badForm hf, State.endDeed]
    · rw [frameOutcome_wrongAddress hf ha, State.endDeed]
    · have hserved := (served_iff _).1 hs
      rw [frameOutcome_valid hf ha, State.endDeed,
        endDeed_read (by simpa using hserved) (answerDeed_served hserved (.inr (.inl hw))),
        endDeed_fail hs, StationRecord.scoreDeed, if_pos hw, if_pos hlimit]
      rfl

section Failures

variable {r : StationRecord} {st : StationId} {now : Time} {settings : LaneSettings} {k : PollKind}
  {kind : FailureKind}

theorem failDeed_doubtful (h : r.score + 8 ≤ 255) (hs : r.state = .good) (h96 : 96 ≤ r.score + 8) :
    r.failDeed st now settings kind =
      ⟨{ r with state := .doubtful, score := r.score + 8, waits := 0
                errors := recordFailure settings.errors r.errors kind },
        [.stationState st .good .doubtful .scoreUp (r.score + 8) r.cleanCalls
          (recordFailure settings.errors r.errors kind) now], [], []⟩ :=
  (if_neg (by omega)).trans (if_pos ⟨hs, h96⟩)

theorem failDeed_kept (h : r.score + 8 ≤ 255) (hs : r.state ≠ .good ∨ r.score + 8 < 96) :
    r.failDeed st now settings kind =
      ⟨{ r with score := r.score + 8, waits := 0
                errors := recordFailure settings.errors r.errors kind }, [], [], []⟩ :=
  (if_neg (by omega)).trans (if_neg fun hd => hs.elim (fun hne => hne hd.1) fun hlt => by omega)

theorem failDeed_dropped (h : 255 < r.score + 8) (hm : settings.recovery ≠ .holdAtDrop) :
    r.failDeed st now settings kind =
      ⟨{ r with state := .dropped, score := 255, cleanCalls := 0, waits := 0
                errors := recordFailure settings.errors r.errors kind, leaveRequested := false },
        [.stationState st r.state .dropped .drop 255 0 (recordFailure settings.errors r.errors kind) now],
        r.loss st .dropped, []⟩ :=
  (if_pos h).trans (if_neg hm)

theorem failDeed_held (h : 255 < r.score + 8) (hm : settings.recovery = .holdAtDrop) :
    r.failDeed st now settings kind =
      ⟨{ r with state := .held, score := 255, cleanCalls := 0, waits := 0
                errors := recordFailure settings.errors r.errors kind, leaveRequested := false },
        [.stationState st r.state .held .holdAtDrop 255 0 (recordFailure settings.errors r.errors kind) now],
        r.loss st .held, []⟩ :=
  (if_pos h).trans (if_pos hm)

end Failures

/-- Settles O56: the rows by the station's state and its score. -/
theorem timeoutScored : Obligations.TimeoutScored := by
  intro s l x i kind r hr hx st hfail errors becomes loss
  obtain ⟨e, hsent, hdeed⟩ := failsBy_deed hr hx hfail
  have hbecomes : ∀ {y reports losses},
      r.endDeed st s.time (s.lane l).settings x.poll.kind (.failure kind) = ⟨y, reports, losses, []⟩ →
      becomes y reports losses := by
    intro y reports losses hd
    obtain ⟨t, h1, h2, h3, h4, h5, h6, h7⟩ := ended_becomes hsent (hdeed.trans hd)
    exact ⟨t, h1, h2, h3, h4, h6, h5, h7⟩
  refine ⟨recordFailure_records _ _ _, fun hs => ⟨fun h hg h96 => ?_, fun h hk => ?_, fun h hm => ?_,
    fun h hm => ?_⟩, fun hs => ?_, fun hs h => ?_, fun hs h => ?_, fun hs => ?_⟩
  · exact hbecomes ((endDeed_fail hs).trans (failDeed_doubtful h hg h96))
  · exact hbecomes ((endDeed_fail hs).trans (failDeed_kept h hk))
  · exact hbecomes ((endDeed_fail hs).trans (failDeed_dropped h hm))
  · exact hbecomes ((endDeed_fail hs).trans (failDeed_held h hm))
  · exact hbecomes (by simp only [StationRecord.endDeed, hs, errors])
  · refine hbecomes ?_
    simp only [StationRecord.endDeed, hs, StationRecord.silentDeed,
      if_neg (show ¬ 8 ≤ r.silent + 1 by omega)]
  · refine hbecomes ?_
    simp only [StationRecord.endDeed, hs]
    exact if_pos (show 8 ≤ r.silent + 1 by omega)
  · exact hbecomes (by simp only [StationRecord.endDeed, hs])

end Sys2Proof.Machine

/-! PROOFS. Chapter 2: the lines of a basket, the walk over the card's orders, and the whole of pricing on the
purse path (O26). -/

namespace Sys2Proof.Machine

open Sys2Proof

/-! ### The lines of a basket (02 R23, R24) -/

/-- The item that a line names. -/
def lineItem (items : List PriceItem) (l : BasketLine) : Option PriceItem :=
  items.find? fun x => x.code = l.code.toNat

/-- The line's item is on the list and on sale in period `p`. -/
def LineSold (items : List PriceItem) (p : Nat) (l : BasketLine) : Prop :=
  ∃ x, lineItem items l = some x ∧ x.mask.get (periodIndex p) = true

/-- What the lines come to, a line with no item counting nothing. -/
def linesGross (items : List PriceItem) (ls : List BasketLine) : Nat :=
  (ls.map fun l => ((lineItem items l).map fun x => x.price * l.quantity.toNat).getD 0).sum

section Lines

variable {items : List PriceItem} {p : Nat} {l : BasketLine}

theorem priceLines_unknown (n : Nat) (ls : List BasketLine) (h : lineItem items l = none) :
    priceLines items p n (l :: ls) = .refused (.itemUnknown n l.code.toNat) := by
  unfold lineItem at h
  simp only [priceLines, h]

theorem priceLines_notNow (n : Nat) (ls : List BasketLine) {x : PriceItem} (h : lineItem items l = some x)
    (hx : x.mask.get (periodIndex p) = false) :
    priceLines items p n (l :: ls) = .refused (.itemNotNow n l.code.toNat p) := by
  unfold lineItem at h
  simp [priceLines, h, hx]

theorem priceLines_sold (n : Nat) (ls : List BasketLine) {x : PriceItem} (h : lineItem items l = some x)
    (hx : x.mask.get (periodIndex p) = true) :
    (∀ r, priceLines items p (n + 1) ls = .refused r → priceLines items p n (l :: ls) = .refused r) ∧
    ∀ g, priceLines items p (n + 1) ls = .total g →
      priceLines items p n (l :: ls) = .total (x.price * l.quantity.toNat + g) := by
  unfold lineItem at h
  constructor <;> intro y hy <;> simp [priceLines, h, hx, hy]

/-- A refusal of the lines after some that are sold is that of the whole. -/
theorem priceLines_refused_after {before : List BasketLine} (hb : ∀ x ∈ before, LineSold items p x) (n : Nat)
    {rest : List BasketLine} {r : StationReply}
    (h : priceLines items p (n + before.length) rest = .refused r) :
    priceLines items p n (before ++ rest) = .refused r := by
  induction before generalizing n with
  | nil => exact h
  | cons l before ih =>
    obtain ⟨hl, hbefore⟩ := List.forall_mem_cons.mp hb
    obtain ⟨x, hfound, hmask⟩ := hl
    refine (priceLines_sold n _ hfound hmask).1 r (ih hbefore (n + 1) ?_)
    rwa [List.length_cons, Nat.add_comm before.length, ← Nat.add_assoc] at h

theorem priceLines_total {ls : List BasketLine} (h : ∀ x ∈ ls, LineSold items p x) (n : Nat) :
    priceLines items p n ls = .total (linesGross items ls) := by
  induction ls generalizing n with
  | nil => rfl
  | cons l ls ih =>
    obtain ⟨hl, hls⟩ := List.forall_mem_cons.mp h
    obtain ⟨x, hfound, hmask⟩ := hl
    rw [(priceLines_sold n ls hfound hmask).2 _ (ih hls (n + 1))]
    simp [linesGross, hfound]

end Lines

section Gross

variable {now : Consulted} {basket : List BasketLine}

theorem grossOf_closed (hb : basket ≠ []) (hk : now.kind = .closed) :
    grossOf now basket = .refused (.closedPeriod now.stamp.period) := if_pos ⟨hb, hk⟩

theorem grossOf_open (hk : basket = [] ∨ now.kind = .meal) : grossOf now basket =
    match priceLines now.active.items now.stamp.period 1 basket with
    | .refused r => .refused r
    | .total g => if 999999 < g then .refused (.basketTooLarge g) else .total g := by
  refine if_neg fun ⟨hb, hc⟩ => ?_
  rcases hk with rfl | hk
  · exact hb rfl
  · simp [hk] at hc

/-- The first line that fails refuses the basket (R23). -/
theorem grossOf_failing (hk : now.kind = .meal) {before after : List BasketLine} {l : BasketLine}
    (hb : ∀ x ∈ before, LineSold now.active.items now.stamp.period x) {r : StationReply}
    (h : priceLines now.active.items now.stamp.period (1 + before.length) (l :: after) = .refused r) :
    grossOf now (before ++ l :: after) = .refused r := by
  rw [grossOf_open (.inr hk), priceLines_refused_after hb 1 h]

theorem grossOf_sold (hk : basket = [] ∨ now.kind = .meal)
    (h : ∀ x ∈ basket, LineSold now.active.items now.stamp.period x) :
    grossOf now basket = if 999999 < linesGross now.active.items basket then
      .refused (.basketTooLarge (linesGross now.active.items basket))
      else .total (linesGross now.active.items basket) := by
  rw [grossOf_open hk, priceLines_total h 1]

theorem grossOf_le {g : Nat} (h : grossOf now basket = .total g) : g ≤ 999999 := by
  unfold grossOf at h
  split at h
  · contradiction
  · split at h
    · contradiction
    · split at h
      · contradiction
      · obtain rfl := LineTotal.total.inj h
        omega

end Gross

/-! ### The walk over the card's orders (02 R28) -/

section Walk

variable (b c : Int)

theorem totalOf_cons (o : CreditOrder) (os : List CreditOrder) :
    totalOf (o :: os) = o.amount + totalOf os := by simp [totalOf]

theorem chooseOrders_prefix (n : Nat) (run : Int) (os : List CreditOrder) :
    chooseOrders b c n run os <+: os := by
  induction os generalizing n run with
  | nil => cases n <;> simp [chooseOrders]
  | cons o os ih =>
    cases n with
    | zero => simp [chooseOrders]
    | succ n =>
      unfold chooseOrders
      split
      · exact List.cons_prefix_cons.mpr ⟨rfl, ih n _⟩
      · exact List.nil_prefix

/-- An order is chosen only where it fits after those before it. -/
theorem chooseOrders_fit (n : Nat) (run : Int) (os before : List CreditOrder) (o : CreditOrder)
    (h : before ++ [o] <+: chooseOrders b c n run os) :
    b + run + totalOf before + o.amount - c ≤ 999999 := by
  induction os generalizing n run before with
  | nil => cases n <;> simp [chooseOrders] at h
  | cons x os ih =>
    cases n with
    | zero => simp [chooseOrders] at h
    | succ n =>
      unfold chooseOrders at h
      split at h
      next hfit =>
        cases before with
        | nil =>
          obtain ⟨rfl, -⟩ := List.cons_prefix_cons.mp h
          simp only [totalOf, List.map_nil, List.sum_nil]
          have hlimit : Config.purseLimit = 999999 := rfl
          omega
        | cons y before =>
          obtain ⟨rfl, hrest⟩ := List.cons_prefix_cons.mp h
          have := ih n _ before hrest
          rw [totalOf_cons]
          omega
      · simp at h

/-- The walk stops short of `n` orders only where the next does not fit. -/
theorem chooseOrders_stop (n : Nat) (run : Int) (os : List CreditOrder) (o : CreditOrder)
    (ho : os[(chooseOrders b c n run os).length]? = some o) (hn : (chooseOrders b c n run os).length < n) :
    999999 < b + run + totalOf (chooseOrders b c n run os) + o.amount - c := by
  induction os generalizing n run with
  | nil => simp at ho
  | cons x os ih =>
    cases n with
    | zero => simp at hn
    | succ n =>
      unfold chooseOrders at ho hn ⊢
      split at ho
      next hfit =>
        rw [if_pos hfit] at hn ⊢
        simp only [List.length_cons, List.getElem?_cons_succ] at ho hn
        have := ih n _ ho (by omega)
        rw [totalOf_cons]
        omega
      next hfit =>
        rw [if_neg hfit]
        obtain rfl : x = o := by simpa using ho
        simp only [totalOf, List.map_nil, List.sum_nil]
        have hlimit : Config.purseLimit = 999999 := rfl
        omega

end Walk

/-- The orders that pricing chooses for the charge `c`. -/
def PriceInput.chosen (i : PriceInput) (c : Nat) : List CreditOrder :=
  chooseOrders i.balance c Config.ridingLimit 0 i.orders

theorem chosen_chosenOrders (i : PriceInput) (c : Nat) : ChosenOrders i c (i.chosen c) where
  first := chooseOrders_prefix ..
  few := chooseOrders_length ..
  fit := fun before o h => by simpa using chooseOrders_fit _ _ _ _ _ before o h
  stop := fun o ho hn => by simpa [PriceInput.chosen] using chooseOrders_stop _ _ _ _ _ o ho hn

/-- None is chosen exactly where the first does not fit. -/
theorem chosen_eq_nil_iff (i : PriceInput) (c : Nat) :
    i.chosen c = [] ↔ ∀ o, i.orders.head? = some o → 999999 < i.balance + o.amount - c := by
  unfold PriceInput.chosen
  cases i.orders with
  | nil => simp [chooseOrders]
  | cons o os =>
    have hlimit : Config.purseLimit = 999999 := rfl
    simp only [chooseOrders, List.head?_cons, Option.some.injEq, forall_eq']
    split_ifs
    · simp only [false_iff]
      omega
    · simp only [true_iff]
      omega

/-- The balance stays within 999,999 (R28). -/
theorem chosen_balance_le {i : PriceInput} (c : Nat) (h : i.balance ≤ 999999) :
    i.balance + totalOf (i.chosen c) - c ≤ 999999 := by
  rcases (i.chosen c).eq_nil_or_concat' with hnil | ⟨before, o, hlast⟩
  · simp only [hnil, totalOf, List.map_nil, List.sum_nil]
    omega
  · have hfit := (chosen_chosenOrders i c).fit before o (hlast ▸ List.prefix_rfl)
    have htotal : totalOf (before ++ [o]) = totalOf before + o.amount := by simp [totalOf]
    rw [hlast, htotal]
    omega

/-! ### Stages 7 and 8 (02 R28, R29) -/

section Settle

variable {i : PriceInput} {f : GroupFigures} {kind : SaleKind} {g s a c : Nat} {chosen : List CreditOrder}

theorem settle_insufficient (h : i.balance + totalOf chosen - c < -(f.overdraft : Int)) :
    settle i f kind g s a c chosen = .answered (.insufficient (i.balance + totalOf chosen + f.overdraft)) :=
  if_pos h

theorem settle_priced (h : -(f.overdraft : Int) ≤ i.balance + totalOf chosen - c) :
    settle i f kind g s a c chosen = .priced
      { kind := kind, figures := { g := g, s := s, a := a, c := c, k := totalOf chosen }
        riding := chosen, newBalance := i.balance + totalOf chosen - c } :=
  if_neg (by omega)

theorem settle_priced_iff {p : Priced} : settle i f kind g s a c chosen = .priced p ↔
    -(f.overdraft : Int) ≤ i.balance + totalOf chosen - c ∧
      { kind := kind, figures := { g := g, s := s, a := a, c := c, k := totalOf chosen }
        riding := chosen, newBalance := i.balance + totalOf chosen - c : Priced } = p := by
  by_cases h : i.balance + totalOf chosen - c < -(f.overdraft : Int)
  · rw [settle_insufficient h]
    exact ⟨fun hp => by contradiction, fun ⟨hp, _⟩ => by omega⟩
  · rw [settle_priced (by omega), Pricing.priced.injEq]
    exact ⟨fun hp => ⟨by omega, hp⟩, And.right⟩

end Settle

/-! ### The stages together -/

/-- S of stage 3 for the gross `g`. -/
def subsidyIn (now : Consulted) (i : PriceInput) (g : Nat) : Nat :=
  subsidyOf g ((groupFigures now.active i.group).subsidy.get (periodIndex now.stamp.period))

/-- What remains of the card's allowance. -/
def allowanceIn (now : Consulted) (i : PriceInput) : Nat :=
  remainingAllowance i.allowanceEnabled
    ((groupFigures now.active i.group).allowance.get (periodIndex now.stamp.period)) i.u

/-- A of stage 5 for the gross `g`. -/
def allowedIn (now : Consulted) (i : PriceInput) (g : Nat) : Nat :=
  min (g - subsidyIn now i g) (allowanceIn now i)

/-- C of stage 6 for the gross `g`. -/
def chargeIn (now : Consulted) (i : PriceInput) (g : Nat) : Nat :=
  g - subsidyIn now i g - allowedIn now i g

section Price

variable {now : Consulted} {basket : List BasketLine} {i : PriceInput} {g : Nat}

theorem priceSale_enquiry (h : i.chosen 0 = []) :
    priceSale now [] i = .answered
      (enquiryReply (groupFigures now.active i.group) now.stamp.period i) := by
  have hchosen : chooseOrders i.balance 0 Config.ridingLimit 0 i.orders = [] := h
  simp only [priceSale, hchosen, if_true]

theorem priceSale_credit (h : i.chosen 0 ≠ []) :
    priceSale now [] i =
      settle i (groupFigures now.active i.group) .credit 0 0 0 0 (i.chosen 0) := by
  have hchosen : chooseOrders i.balance 0 Config.ridingLimit 0 i.orders ≠ [] := h
  simp only [priceSale, if_neg hchosen, if_true]
  rfl

theorem priceSale_refused (hb : basket ≠ []) {r : StationReply} (hg : grossOf now basket = .refused r) :
    priceSale now basket i = .answered r := by
  simp only [priceSale, if_neg hb, hg]

theorem priceSale_capped (hb : basket ≠ []) (hg : grossOf now basket = .total g)
    (hcap : (groupFigures now.active i.group).dailyCap ≠ 0)
    (hd : (groupFigures now.active i.group).dailyCap < i.d + chargeIn now i g) :
    priceSale now basket i =
      .answered (.capReached ((groupFigures now.active i.group).dailyCap - i.d)) := by
  simp only [priceSale, if_neg hb, hg]
  exact if_pos ⟨hcap, hd⟩

theorem priceSale_settles (hb : basket ≠ []) (hg : grossOf now basket = .total g)
    (hcap : (groupFigures now.active i.group).dailyCap = 0 ∨
      i.d + chargeIn now i g ≤ (groupFigures now.active i.group).dailyCap) :
    priceSale now basket i = settle i (groupFigures now.active i.group) .sale g (subsidyIn now i g)
      (allowedIn now i g) (chargeIn now i g) (i.chosen (chargeIn now i g)) := by
  simp only [priceSale, if_neg hb, hg]
  refine if_neg fun ⟨hne, hlt⟩ => ?_
  rcases hcap with h | h
  · exact hne h
  · exact absurd hlt (Nat.not_lt.mpr h)

/-- What a priced sale of a basket has passed. -/
theorem priceSale_sale (hb : basket ≠ []) {p : Priced} (h : priceSale now basket i = .priced p) :
    ∃ g, grossOf now basket = .total g ∧
      ((groupFigures now.active i.group).dailyCap = 0 ∨
        i.d + chargeIn now i g ≤ (groupFigures now.active i.group).dailyCap) ∧
      settle i (groupFigures now.active i.group) .sale g (subsidyIn now i g) (allowedIn now i g)
        (chargeIn now i g) (i.chosen (chargeIn now i g)) = .priced p := by
  cases hg : grossOf now basket with
  | refused r => simp [priceSale_refused hb hg] at h
  | total g =>
    by_cases hcap : (groupFigures now.active i.group).dailyCap = 0 ∨
        i.d + chargeIn now i g ≤ (groupFigures now.active i.group).dailyCap
    · exact ⟨g, rfl, hcap, priceSale_settles hb hg hcap ▸ h⟩
    · obtain ⟨hne, hlt⟩ := not_or.mp hcap
      simp [priceSale_capped hb hg hne (Nat.not_le.mp hlt)] at h

/-- What a priced sale of no basket has passed. -/
theorem priceSale_noBasket {p : Priced} (h : priceSale now [] i = .priced p) :
    i.chosen 0 ≠ [] ∧
      settle i (groupFigures now.active i.group) .credit 0 0 0 0 (i.chosen 0) = .priced p := by
  by_cases hc : i.chosen 0 = []
  · simp [priceSale_enquiry hc] at h
  · exact ⟨hc, priceSale_credit hc ▸ h⟩

/-- A sale that reaches stages 7 and 8 ends as they do. -/
theorem settles_of_eq {kind : SaleKind} {g s a c : Nat}
    (h : priceSale now basket i = settle i (groupFigures now.active i.group) kind g s a c (i.chosen c)) :
    ∃ riding : List CreditOrder, ChosenOrders i c riding ∧
      (i.balance + totalOf riding - c < -((groupFigures now.active i.group).overdraft : Int) →
        priceSale now basket i = .answered
          (.insufficient (i.balance + totalOf riding + (groupFigures now.active i.group).overdraft))) ∧
      (-((groupFigures now.active i.group).overdraft : Int) ≤ i.balance + totalOf riding - c →
        priceSale now basket i = .priced
          { kind := kind
            figures := { g := g, s := s, a := a, c := c, k := totalOf riding }
            riding := riding
            newBalance := i.balance + totalOf riding - c }) :=
  ⟨i.chosen c, chosen_chosenOrders i c, fun hlow => h.trans (settle_insufficient hlow),
    fun hok => h.trans (settle_priced hok)⟩

/-- Settles O26: a priced sale is one that stages 7 and 8 priced, for a basket or for none; and each stage
refuses by its own rule. -/
theorem pricedSaleBalances : Obligations.PricedSaleBalances := by
  intro now basket i f period rate left found sold answered settled
  refine ⟨fun hrate hbalance p hp => ?priced, fun hb => ⟨fun hhead => ?enquiry, fun o ho hfit => ?credit⟩,
    fun hb hk => priceSale_refused hb (grossOf_closed hb hk), fun hk => ⟨?failing, fun hb hsold => ?sale⟩⟩
  case priced =>
    by_cases hb : basket = []
    · subst hb
      obtain ⟨hne, hsettle⟩ := priceSale_noBasket hp
      obtain ⟨hlow, rfl⟩ := settle_priced_iff.mp hsettle
      have hchosen := chosen_chosenOrders i 0
      have hhigh := chosen_balance_le (i := i) 0 hbalance
      refine ⟨by simp, by simp, by simp, by simp,
        ⟨rfl, hchosen.first, hchosen.few, hchosen.stop⟩, ⟨rfl, hlow, hhigh⟩, by simp, fun _ => ⟨rfl, hne, rfl⟩⟩
    · obtain ⟨g, hg, hcap, hsettle⟩ := priceSale_sale hb hp
      obtain ⟨hlow, rfl⟩ := settle_priced_iff.mp hsettle
      have hchosen := chosen_chosenOrders i (chargeIn now i g)
      have hhigh := chosen_balance_le (chargeIn now i g) hbalance
      have hs : subsidyIn now i g ≤ g := subsidyOf_le g hrate
      have hgross := grossOf_le hg
      have ha : allowedIn now i g ≤ g - subsidyIn now i g := min_le_left _ _
      have hleft : allowedIn now i g ≤ left := min_le_right _ _
      have hcharge : chargeIn now i g = g - subsidyIn now i g - allowedIn now i g := rfl
      have hallowed : (allowedIn now i g : Int) = min ((g : Int) - (subsidyIn now i g : Int)) left := by
        rw [← Nat.cast_sub hs]
        exact Nat.cast_min ..
      refine ⟨⟨?_, ?_, ?_, ?_, ?_, ?_⟩, fun _ => ⟨g, hg, rfl, rfl, hallowed⟩, ?_,
        fun _ hne => Int.ofNat_le.mpr (hcap.resolve_left hne),
        ⟨rfl, hchosen.first, hchosen.few, hchosen.stop⟩, ⟨rfl, hlow, hhigh⟩, fun _ => rfl, fun h => absurd h hb⟩
      all_goals dsimp only; omega
  case enquiry =>
    subst hb
    exact priceSale_enquiry ((chosen_eq_nil_iff i 0).mpr (by simpa using hhead))
  case credit =>
    subst hb
    refine settles_of_eq (priceSale_credit fun hnil => ?_)
    have := (chosen_eq_nil_iff i 0).mp hnil o ho
    omega
  case failing =>
    rintro before l after rfl hbefore
    have hb : before ++ l :: after ≠ [] := by simp
    refine ⟨fun hnone => priceSale_refused hb (grossOf_failing hk hbefore ?_),
      fun x hx hmask => priceSale_refused hb (grossOf_failing hk hbefore ?_)⟩
    · rw [Nat.add_comm]
      exact priceLines_unknown _ _ hnone
    · rw [Nat.add_comm]
      exact priceLines_notNow _ _ hx hmask
  case sale =>
    intro gross sub allowed charge
    have hg := grossOf_sold (basket := basket) (.inr hk) hsold
    refine ⟨fun hover => priceSale_refused hb (hg.trans (if_pos hover)), fun hfits =>
      ⟨fun hne hlt => priceSale_capped hb (hg.trans (if_neg (Nat.not_lt.mpr hfits))) hne hlt, fun hcap =>
        settles_of_eq (priceSale_settles hb (hg.trans (if_neg (Nat.not_lt.mpr hfits))) hcap)⟩⟩

end Price

end Sys2Proof.Machine

/-! PROOFS. The check order's first half: the form of a basket, the identity check, the choice of the slot, and
the refusals of steps 1 to 5 (O28). -/

namespace Sys2Proof.Machine

open Sys2Proof

/-! ### The form of a basket (02 R21) -/

theorem offendingLine_eq (n : Nat) (lines : List BasketLine) :
    offendingLine n lines = firstFrom (fun k l => decide (12 < k) || !lineOk l) n lines := by
  induction lines generalizing n with
  | nil => rfl
  | cons l ls ih => simp [offendingLine, firstFrom, ih]

theorem lineOffends_iff {lines : List BasketLine} {i : Nat} : LineOffends lines i ↔
    ∃ x, lines[i]? = some x ∧ (decide (12 < 1 + i) || !lineOk x) = true := by
  refine exists_congr fun x => and_congr_right fun _ => ?_
  simp only [lineOk, Bool.or_eq_true, decide_eq_true_eq, Bool.not_eq_true', decide_eq_false_iff_not]
  omega

theorem FirstIndex.unique {P : Nat → Prop} {i j : Nat} (hi : FirstIndex P i) (hj : FirstIndex P j) :
    i = j := by
  rcases Nat.lt_trichotomy i j with h | h | h
  · exact absurd hi.1 (hj.2 i h)
  · exact h
  · exact absurd hj.1 (hi.2 j h)

theorem offendingLine_iff {lines : List BasketLine} {k : Nat} :
    offendingLine 1 lines = some k ↔ ∃ j, k = j + 1 ∧ FirstIndex (LineOffends lines) j := by
  have found : (∃ i, LineOffends lines i) →
      ∃ i, FirstIndex (LineOffends lines) i ∧ offendingLine 1 lines = some (1 + i) := fun h => by
    rw [offendingLine_eq]
    exact firstFrom_first (fun i => lineOffends_iff) h
  constructor
  · intro hk
    rw [offendingLine_eq] at hk
    obtain ⟨i, -, hx, -⟩ := firstFrom_some hk
    obtain ⟨j, hj, hkj⟩ := found ⟨i, lineOffends_iff.mpr hx⟩
    rw [← offendingLine_eq, hkj] at hk
    exact ⟨j, by rw [← Option.some.inj hk, Nat.add_comm], hj⟩
  · rintro ⟨j, rfl, hj⟩
    obtain ⟨i, hi, hk⟩ := found ⟨j, hj.1⟩
    rw [hk, hi.unique hj, Nat.add_comm]

/-! ### The identity check and the choice of the slot (01 R4, R6, R8) -/

theorem cardKind_ofCode {k : BitVec 8} {kind : CardKind} : CardKind.ofCode k = some kind ↔
    k.toNat = 0 ∧ kind = .staff ∨ k.toNat = 1 ∧ kind = .contractor ∨ k.toNat = 2 ∧ kind = .visitor := by
  have h0 : k = 0 ↔ k.toNat = 0 := by bv_omega
  have h1 : k = 1 ↔ k.toNat = 1 := by bv_omega
  have h2 : k = 2 ↔ k.toNat = 2 := by bv_omega
  unfold CardKind.ofCode
  simp only [h0, h1, h2]
  split_ifs with hs hc hv
  · simp [hs, eq_comm]
  · simp [hc, eq_comm]
  · simp [hv, eq_comm]
  · simp [hs, hc, hv]

theorem identityCheck_some {i : IdentityBlock} {day : Nat} {kind : CardKind} :
    identityCheck i day = some kind ↔
      i.check = crc8 (i.bytes.take 7) ∧ i.issueDay.toNat ≤ day ∧
        (i.kind.toNat = 0 ∧ kind = .staff ∨ i.kind.toNat = 1 ∧ kind = .contractor ∨
          i.kind.toNat = 2 ∧ kind = .visitor) := by
  have hbody : i.bytes.take 7 = i.body := rfl
  rw [hbody, ← cardKind_ofCode, ← and_assoc]
  unfold identityCheck
  split_ifs with h
  · exact ⟨fun hk => ⟨h, hk⟩, And.right⟩
  · exact ⟨fun hk => by contradiction, fun hk => absurd hk.1 h⟩

theorem validImage_iff {x : Option PurseSlot} {p : PurseSlot} : validImage x = some p ↔
    x = some p ∧ p.check = crc8 (p.bytes.take 15) ∧ -5000 ≤ p.balance.toInt ∧
      p.balance.toInt ≤ 999999 ∧ p.writerHall.toNat ≤ 63 := by
  have hbody : p.bytes.take 15 = p.body := rfl
  rw [validImage_some, hbody, PurseSlot.valid, decide_eq_true_eq]
  exact Iff.rfl

section Select

variable {image : CardImage} {p q : PurseSlot}

theorem selectSlot_none (h0 : validImage image.slot0 = none) (h1 : validImage image.slot1 = none) :
    selectSlot image = .damaged .noValidSlot := by simp [selectSlot, h0, h1]

theorem selectSlot_both (h0 : validImage image.slot0 = some p) (h1 : validImage image.slot1 = some q) :
    selectSlot image = if seqNewer p.sequence q.sequence then .current p .one
      else if seqNewer q.sequence p.sequence then .current q .zero
      else if seqOpposed p.sequence q.sequence then .damaged .opposed
      else if p = q then .current p .one
      else .damaged .conflict := by simp [selectSlot, h0, h1]

/-- The relation of two sequences by d (R7). -/
theorem sequence_by_distance (a b : Seq) :
    (seqNewer a b = true ↔ 1 ≤ (a - b).toNat ∧ (a - b).toNat ≤ 32767) ∧
    (seqNewer b a = true ↔ 32769 ≤ (a - b).toNat) ∧
    (seqOpposed a b = true ↔ (a - b).toNat = 32768) := by
  refine ⟨by simp [seqNewer], ?_, by simp [seqOpposed]⟩
  simp only [seqNewer, decide_eq_true_eq]
  bv_omega

end Select

/-! ### The commands and their steps (04 R65, R66) -/

section Present

variable {s : State} {st : StationId} {n : Byte} {image : CardImage} {p : Presented}

/-- SALE_OPEN presents a basket, REVERSE a reversal. -/
theorem exec_presents {i : Instr} {q : StationRequest} {lines : List BasketLine}
    (hi : i = .saleOpen ∧ q = .saleOpen image lines ∧ p = .basket lines ∨
      i = .reverse ∧ q = .reverse image ∧ p = .reversal)
    (hr : s.running = true) (hn : s.nextRequest = some (.station st n q)) :
    exec i s = .next (s.dequeued.present st n image p) := by
  rcases hi with ⟨rfl, rfl, rfl⟩ | ⟨rfl, rfl, rfl⟩
  · show whenRunning s _ = _
    rw [whenRunning_running hr, hn]
  · show whenRunning s _ = _
    rw [whenRunning_running hr, hn]

theorem present_offence {k : Nat} (h : p.offence = some k) :
    s.present st n image p = s.giveReply st n (.badRequest k) := by
  simp only [State.present, h]

theorem present_step1 (ho : p.offence = none) {r : StationReply} (h : s.step1 st p = some r) :
    s.present st n image p = s.giveReply st n r := by simp only [State.present, ho, h]

theorem present_identity (ho : p.offence = none) (h1 : s.step1 st p = none)
    (h : identityCheck image.identity s.clock.day = none) :
    s.present st n image p = s.giveReply st n (.cardDamaged .identity none) := by
  simp only [State.present, ho, h1, h]

theorem present_sorts (ho : p.offence = none) (h1 : s.step1 st p = none) {kind : CardKind}
    (h : identityCheck image.identity s.clock.day = some kind) :
    s.present st n image p = s.sortCard st n s.consult image kind p := by
  simp only [State.present, ho, h1, h]

/-- The station is one that the engine serves. -/
def State.serves (s : State) (st : StationId) : Prop :=
  (s.station st).state = .good ∨ (s.station st).state = .doubtful

theorem step1_mode (h : s.hall.mode ≠ .serving) : s.step1 st p = some .notServing := if_pos h

theorem step1_state (hm : s.hall.mode = .serving) (hg : (s.station st).state ≠ .good)
    (hd : (s.station st).state ≠ .doubtful) : s.step1 st p = some .notServing := by
  simp [State.step1, hm, hg, hd]

theorem step1_role (hm : s.hall.mode = .serving) (hs : s.serves st) (hp : p = .reversal)
    (hr : (s.station st).role ≠ some .supervisor) : s.step1 st p = some .notPermitted := by
  have hserved : ¬ ((s.station st).state ≠ .good ∧ (s.station st).state ≠ .doubtful) := by
    rwa [← not_or, not_not]
  simp only [State.step1, hm, ne_eq, not_true, if_false]
  rw [if_neg hserved, if_pos ⟨hp, hr⟩]

theorem step1_served (hm : s.hall.mode = .serving) (hs : s.serves st)
    (hr : p = .reversal → (s.station st).role = some .supervisor) :
    s.step1 st p = (s.sale.contextOf st).map fun c => .stationBusy c.data.sale := by
  have hserved : ¬ ((s.station st).state ≠ .good ∧ (s.station st).state ≠ .doubtful) := by
    rwa [← not_or, not_not]
  simp only [State.step1, hm, ne_eq, not_true, if_false]
  rw [if_neg hserved, if_neg fun h => h.2 (hr h.1)]

theorem step1_busy (hm : s.hall.mode = .serving) (hs : s.serves st)
    (hr : p = .reversal → (s.station st).role = some .supervisor) {c : Context}
    (hc : s.sale.contextOf st = some c) : s.step1 st p = some (.stationBusy c.data.sale) := by
  rw [step1_served hm hs hr, hc]
  rfl

theorem step1_passes (hm : s.hall.mode = .serving) (hs : s.serves st)
    (hr : p = .reversal → (s.station st).role = some .supervisor) (hc : s.sale.contextOf st = none) :
    s.step1 st p = none := by
  rw [step1_served hm hs hr, hc]
  rfl

theorem step1_dequeued : s.dequeued.step1 st p = s.step1 st p := by
  simp only [State.step1, station_dequeued]
  rfl

/-! ### Steps 3 to 5 (03 R42, 01 R8, 04 R67) -/

variable {now : Consulted} {kind : CardKind} {g : Nat}

theorem sortCard_stopped (h : s.decoder.decode image.identity.card.toNat = .stopped) :
    s.sortCard st n now image kind p = s.giveReply st n (.cardStopped image.identity.card.toNat) := by
  simp only [State.sortCard, h]

theorem sortCard_unknown (h : s.decoder.decode image.identity.card.toNat = .unknown) :
    s.sortCard st n now image kind p = s.giveReply st n (.cardUnknown image.identity.card.toNat) := by
  simp only [State.sortCard, h]

theorem sortCard_cashOnly {entry : Option Nat}
    (h : s.decoder.decode image.identity.card.toNat = .cashOnly g entry) :
    s.sortCard st n now image kind p =
      s.cashPath st n now image.identity.card.toNat kind g p := by
  simp only [State.sortCard, h]

variable {allowance : Bool} {entry : Nat}

theorem sortCard_damaged (h : s.decoder.decode image.identity.card.toNat = .purse g allowance entry)
    {why : DamageReason} (hs : selectSlot image = .damaged why) :
    s.sortCard st n now image kind p =
      s.giveReply st n (.cardDamaged why (some image.identity.card.toNat)) := by
  simp only [State.sortCard, h, hs]

variable {slot : PurseSlot} {target : SlotIndex}

theorem sortCard_inUse (h : s.decoder.decode image.identity.card.toNat = .purse g allowance entry)
    (hs : selectSlot image = .current slot target) {c : Context}
    (hc : s.sale.contextOfCard image.identity.card.toNat = some c) :
    s.sortCard st n now image kind p = s.giveReply st n (.cardInUse c.data.station c.data.sale) := by
  simp only [State.sortCard, h, hs, hc]

theorem sortCard_purse (h : s.decoder.decode image.identity.card.toNat = .purse g allowance entry)
    (hs : selectSlot image = .current slot target)
    (hc : s.sale.contextOfCard image.identity.card.toNat = none) :
    s.sortCard st n now image kind p =
      s.pursePath st n now ⟨image.identity.card.toNat, kind, g, allowance, slot, target⟩ image p := by
  simp only [State.sortCard, h, hs, hc]

/-- Past steps 1 and 2 the card is sorted by its class. -/
theorem present_passed (ho : p.offence = none) (hm : s.hall.mode = .serving) (hs : s.serves st)
    (hr : p = .reversal → (s.station st).role = some .supervisor) (hc : s.sale.contextOf st = none)
    (hid : identityCheck image.identity s.clock.day = some kind) :
    s.dequeued.present st n image p = s.dequeued.sortCard st n s.consult image kind p :=
  present_sorts ho (step1_dequeued.trans (step1_passes hm hs hr hc)) hid

/-- Settles O28: the form and the card's blocks by their own lemmas, and each refusal by the first step that
gives one. -/
theorem earlyRefusals : Obligations.EarlyRefusals := by
  refine ⟨⟨rfl, fun lines k => offendingLine_iff⟩, fun i day kind => identityCheck_some,
    fun x p => validImage_iff, fun image => ⟨selectSlot_none, fun p h0 h1 => by simp [selectSlot, h0, h1],
      fun q h0 h1 => by simp [selectSlot, h0, h1], fun p q h0 h1 => ?slots⟩, ?steps⟩
  case slots =>
    intro d
    obtain ⟨hnewer, holder, hopposed⟩ := sequence_by_distance p.sequence q.sequence
    have hd : d = (p.sequence - q.sequence).toNat := rfl
    rw [← hd] at hnewer holder hopposed
    rw [selectSlot_both h0 h1]
    refine ⟨fun hlow hhigh => if_pos (hnewer.mpr ⟨hlow, hhigh⟩), fun hlow => ?_, fun heq => ?_,
      fun hzero heq => ?_, fun hzero hne => ?_⟩
    · rw [if_neg fun h => by have := hnewer.mp h; omega, if_pos (holder.mpr hlow)]
    · rw [if_neg fun h => by have := hnewer.mp h; omega, if_neg fun h => by have := holder.mp h; omega,
        if_pos (hopposed.mpr heq)]
    · rw [if_neg fun h => by have := hnewer.mp h; omega, if_neg fun h => by have := holder.mp h; omega,
        if_neg fun h => by have := hopposed.mp h; omega, if_pos heq]
    · rw [if_neg fun h => by have := hnewer.mp h; omega, if_neg fun h => by have := holder.mp h; omega,
        if_neg fun h => by have := hopposed.mp h; omega, if_neg hne]
  case steps =>
    intro s i q p st n image lines hi hrun hnext card refusedWith
    have hexec := exec_presents hi hrun hnext
    have answer {r : StationReply} (h : s.dequeued.present st n image p = s.dequeued.giveReply st n r) :
        refusedWith r := hexec.trans (congrArg _ h)
    have step1 (ho : p.offence = none) {r : StationReply} (h : s.step1 st p = some r) : refusedWith r :=
      answer (present_step1 ho (step1_dequeued.trans h))
    refine ⟨fun k hk => answer (present_offence hk), fun ho => ⟨fun hm => step1 ho (step1_mode hm),
      fun hm => ⟨fun hg hd => step1 ho (step1_state hm hg hd), fun hs =>
        ⟨fun hp hrole => step1 ho (step1_role hm hs hp hrole), fun hrole =>
          ⟨fun c hc => step1 ho (step1_busy hm hs hrole hc), fun hc => ?cards⟩⟩⟩⟩⟩
    have h1 : s.dequeued.step1 st p = none := step1_dequeued.trans (step1_passes hm hs hrole hc)
    refine ⟨fun hnone => answer (present_identity ho h1 hnone), fun hsome => ?_⟩
    obtain ⟨kind, hkind⟩ := Option.ne_none_iff_exists'.mp hsome
    have sorted {r : StationReply}
        (h : s.dequeued.sortCard st n s.consult image kind p = s.dequeued.giveReply st n r) :
        refusedWith r := answer ((present_passed ho hm hs hrole hc hkind).trans h)
    exact ⟨fun hd => sorted (sortCard_stopped hd), fun hd => sorted (sortCard_unknown hd),
      fun g a e hd => ⟨fun why hw => sorted (sortCard_damaged (s := s.dequeued) hd hw), fun slot target hsel c hcc =>
        sorted (sortCard_inUse (s := s.dequeued) hd hsel hcc)⟩⟩

end Present

end Sys2Proof.Machine

/-! PROOFS. Steps 6 to 10 of the check order: the record of the card, its doubt entry, and what pricing opens
(O29 to O31). -/

namespace Sys2Proof.Machine

open Sys2Proof

/-! ### Card Memory (07 R119) -/

section Memory

variable {m : List CardRecord} {v w r : CardRecord} {card : Nat}

theorem findCard_none_iff : findCard m card = none ↔ ∀ x ∈ m, x.card ≠ card := by
  simp [findCard]

theorem findCard_some (h : findCard m card = some r) : r ∈ m ∧ r.card = card :=
  ⟨List.mem_of_find?_eq_some h, by simpa using List.find?_some h⟩

theorem findCard_insertCard_self (h : findCard m r.card = none) :
    findCard (insertCard r m) r.card = some r := by
  induction m with
  | nil => simp [insertCard, findCard]
  | cons x xs ih =>
    have hall := findCard_none_iff.mp h
    have hx : x.card ≠ r.card := hall x List.mem_cons_self
    have hxs : findCard xs r.card = none :=
      findCard_none_iff.mpr fun y hy => hall y (List.mem_cons_of_mem _ hy)
    unfold insertCard
    split
    · simp [findCard]
    · simpa [findCard, hx] using ih hxs

theorem findCard_insertCard_other (h : card ≠ r.card) :
    findCard (insertCard r m) card = findCard m card := by
  induction m with
  | nil => simp [insertCard, findCard, h.symm]
  | cons x xs ih =>
    unfold insertCard
    split
    · simp [findCard, h.symm]
    · unfold findCard at ih ⊢
      simp only [List.find?_cons, ih]

theorem findCard_filter_self : findCard (m.filter fun r => r.card ≠ card) card = none := by
  simp [findCard_none_iff]

theorem findCard_filter_other {x : Nat} (h : x ≠ card) :
    findCard (m.filter fun r => r.card ≠ card) x = findCard m x := by
  unfold findCard
  rw [List.find?_filter]
  congr 1
  funext r
  by_cases hr : r.card = x
  · simp [hr, h]
  · simp [hr]

/-- The record `a` leaves a full map no later than `b`. -/
def LeavesBefore (a b : CardRecord) : Prop :=
  a.lastSeen.day < b.lastSeen.day ∨
    a.lastSeen.day = b.lastSeen.day ∧ a.lastSeen.minute < b.lastSeen.minute ∨
    a.lastSeen = b.lastSeen ∧ a.card ≤ b.card

theorem Time.eq_iff {a b : Time} : a = b ↔ a.day = b.day ∧ a.minute = b.minute := by
  cases a; cases b; simp

theorem evictedFirst_iff {a b : CardRecord} : evictedFirst a b = true ↔
    LeavesBefore a b ∧ (a.lastSeen = b.lastSeen → a.card < b.card) := by
  simp only [evictedFirst, timeBefore, LeavesBefore, Bool.or_eq_true, Bool.and_eq_true, decide_eq_true_eq,
    Time.eq_iff]
  omega

theorem LeavesBefore.total (a b : CardRecord) : LeavesBefore a b ∨ LeavesBefore b a := by
  simp only [LeavesBefore, Time.eq_iff]
  omega

theorem LeavesBefore.trans {a b c : CardRecord} (h : LeavesBefore a b) (h' : LeavesBefore b c) :
    LeavesBefore a c := by
  simp only [LeavesBefore, Time.eq_iff] at h h' ⊢
  omega

theorem LeavesBefore.card_eq {a b : CardRecord} (h : LeavesBefore a b) (h' : LeavesBefore b a) :
    a.card = b.card := by
  simp only [LeavesBefore, Time.eq_iff] at h h'
  omega

/-- The record neither in use nor in doubt. -/
def CardRecord.clear (r : CardRecord) : Prop := r.inUse = none ∧ r.doubt = false

theorem victim_none (h : victim m = none) : ∀ x ∈ m, ¬ x.clear := by
  induction m with
  | nil => simp
  | cons r rs ih =>
    unfold victim at h
    split at h
    · split at h
      · contradiction
      · split at h <;> contradiction
    next hflags => exact List.forall_mem_cons.mpr ⟨hflags, ih h⟩

theorem victim_some (h : victim m = some w) :
    w ∈ m ∧ w.clear ∧ ∀ x ∈ m, x.clear → LeavesBefore w x := by
  induction m generalizing w with
  | nil => contradiction
  | cons r rs ih =>
    unfold victim at h
    split at h
    next hclear =>
      split at h
      next hnone =>
        obtain rfl := Option.some.inj h
        refine ⟨List.mem_cons_self, hclear, List.forall_mem_cons.mpr ⟨fun _ => .inr (.inr ⟨rfl, le_rfl⟩), ?_⟩⟩
        exact fun x hx hx' => absurd hx' (victim_none hnone x hx)
      next v hv =>
        obtain ⟨hmem, hvclear, hfirst⟩ := ih hv
        split at h
        next hbefore =>
          obtain rfl := Option.some.inj h
          exact ⟨List.mem_cons_of_mem _ hmem, hvclear,
            List.forall_mem_cons.mpr ⟨fun _ => (evictedFirst_iff.mp hbefore).1, hfirst⟩⟩
        next hnot =>
          obtain rfl := Option.some.inj h
          have hle : LeavesBefore r v := by
            rcases LeavesBefore.total r v with hle | hle
            · exact hle
            · rw [evictedFirst_iff] at hnot
              simp only [LeavesBefore, Time.eq_iff] at hle hnot ⊢
              omega
          exact ⟨List.mem_cons_self, hclear, List.forall_mem_cons.mpr ⟨fun _ => .inr (.inr ⟨rfl, le_rfl⟩),
            fun x hx hx' => hle.trans (hfirst x hx hx')⟩⟩
    next hflags =>
      obtain ⟨hmem, hclear, hfirst⟩ := ih h
      exact ⟨List.mem_cons_of_mem _ hmem, hclear,
        List.forall_mem_cons.mpr ⟨fun hr => absurd hr hflags, hfirst⟩⟩

theorem makeRoom_room (h : m.length < 4096) : makeRoom m = m := if_pos h

theorem makeRoom_full (h : 4096 ≤ m.length) (hv : victim m = some v) :
    makeRoom m = m.filter fun r => r.card ≠ v.card := by
  rw [makeRoom, if_neg (Nat.not_lt.mpr h), hv]

/-- The record that is evicted has the number of the one that leaves first. -/
theorem makeRoom_leavesFirst (h : 4096 ≤ m.length) (hv : LeavesFirst m v) :
    makeRoom m = m.filter fun r => r.card ≠ v.card := by
  cases hw : victim m with
  | none => exact absurd hv.clear (victim_none hw v hv.held)
  | some w =>
    obtain ⟨hmem, hclear, hfirst⟩ := victim_some hw
    have hcard : w.card = v.card :=
      (hfirst v hv.held hv.clear).card_eq (hv.first w hmem hclear.1 hclear.2)
    rw [makeRoom_full h hw, hcard]

theorem makeRoom_subset : ∀ x ∈ makeRoom m, x ∈ m := by
  unfold makeRoom
  split
  · exact fun _ => id
  · split
    · exact fun x hx => (List.mem_filter.mp hx).1
    · exact fun _ => id

end Memory

/-! ### The comparison of step 6 (07 R120) -/

section Compare

variable {r : CardRecord} {p : PurseSlot}

theorem staleReason_older (h : seqOlder p.sequence r.seq = true) : staleReason r p = some .older := by
  have hnewer : ¬ seqNewer p.sequence r.seq = true := by
    simp only [seqOlder, seqNewer, decide_eq_true_eq] at h ⊢
    bv_omega
  have hne : p.sequence ≠ r.seq := fun heq => by simp [seqOlder, seqNewer, heq] at h
  simp [staleReason, hnewer, hne, h]

theorem staleReason_opposed (h : seqOpposed p.sequence r.seq = true) : staleReason r p = some .opposed := by
  have hnewer : ¬ seqNewer p.sequence r.seq = true := by
    simp only [seqOpposed, seqNewer, decide_eq_true_eq] at h ⊢
    omega
  have holder : ¬ seqOlder p.sequence r.seq = true := by
    simp only [seqOpposed, seqOlder, seqNewer, decide_eq_true_eq] at h ⊢
    bv_omega
  have hne : p.sequence ≠ r.seq := fun heq => by simp [seqOpposed, heq] at h
  simp [staleReason, hnewer, hne, holder]

theorem staleReason_newer (h : seqNewer p.sequence r.seq = true) : staleReason r p = none := if_pos h

theorem staleReason_same (h : p.sequence = r.seq) :
    staleReason r p = if p.money = r.balance then none else some .conflict := by
  simp [staleReason, h, seqNewer]

/-- A card that passes has its record brought to what it shows. -/
theorem meetRecord_passed (now : Time) (h : staleReason r p = none) : meetRecord r p now =
    { r with seq := p.sequence, balance := p.money, writer := p.writer, lastSeen := now } := by
  by_cases hn : seqNewer p.sequence r.seq = true
  · exact if_pos hn
  by_cases hs : p.sequence = r.seq
  · rw [staleReason_same hs] at h
    have hm : p.money = r.balance := by
      by_contra hne
      simp [hne] at h
    simp [meetRecord, hs, hm]
  · simp only [staleReason, if_neg hn, if_neg hs] at h
    split at h <;> contradiction

theorem meetRecord_stale (now : Time) (h : staleReason r p ≠ none) :
    meetRecord r p now = { r with lastSeen := now } := by
  have hn : ¬ seqNewer p.sequence r.seq = true := fun hn => h (if_pos hn)
  have hs : ¬ (p.sequence = r.seq ∧ p.money = r.balance) := fun ⟨hs, hm⟩ =>
    h ((staleReason_same hs).trans (if_pos hm))
  exact (if_neg hn).trans (if_neg hs)

theorem meetRecord_card (r : CardRecord) (p : PurseSlot) (now : Time) :
    (meetRecord r p now).card = r.card := by
  unfold meetRecord
  split
  · rfl
  · split <;> rfl

end Compare

/-! ### Step 6 (07 R119 to R121) -/

section Step6

variable {s : State} {st : StationId} {card : Nat} {slot : PurseSlot} {r : CardRecord}

/-- The state that step 6 leaves for a card that passes. -/
def State.met (s : State) (card : Nat) (slot : PurseSlot) : State :=
  match findCard s.sale.memory card with
  | none => { s with sale := { s.sale with
      memory := insertCard (newCard card slot s.time) (makeRoom s.sale.memory) } }
  | some _ => s.mapCard card fun r => meetRecord r slot s.time

theorem met_created (h : findCard s.sale.memory card = none) : s.met card slot =
    { s with sale := { s.sale with
      memory := insertCard (newCard card slot s.time) (makeRoom s.sale.memory) } } := by
  simp only [State.met, h]

theorem met_found (h : findCard s.sale.memory card = some r) :
    s.met card slot = s.mapCard card fun r => meetRecord r slot s.time := by
  simp only [State.met, h]

theorem met_eq (s : State) (card : Nat) (slot : PurseSlot) :
    s.met card slot = { s with sale := { s.sale with memory := (s.met card slot).sale.memory } } := by
  cases h : findCard s.sale.memory card with
  | none => rw [met_created h]
  | some r => rw [met_found h]; rfl

theorem step6_passes (h : ∀ r, findCard s.sale.memory card = some r → staleReason r slot = none) :
    s.step6 st card slot = (s.met card slot, none) := by
  cases hf : findCard s.sale.memory card with
  | none => simp only [State.step6, met_created hf, hf]
  | some r => simp only [State.step6, met_found hf, hf, h r hf]

theorem step6_stale {why : StaleReason} (hf : findCard s.sale.memory card = some r)
    (h : staleReason r slot = some why) : s.step6 st card slot =
      ((s.mapCard card fun r => meetRecord r slot s.time).queueReport
        (.staleMemory card st why slot.sequence slot.money r.seq r.balance r.writer),
        some (.staleMemory why card slot.sequence r.seq)) := by
  simp only [State.step6, hf, h]

/-- Step 6 of a card that passes (R119, R120). -/
theorem met_meetsCard (h : ∀ r, findCard s.sale.memory card = some r → staleReason r slot = none) :
    MeetsCard s card slot (s.met card slot) where
  found := fun old hf => by
    have hcard : ∀ r, (meetRecord r slot s.time).card = r.card := fun r => meetRecord_card ..
    rw [met_found hf, ← meetRecord_passed s.time (h old hf)]
    refine ⟨findCard_updateCard_self hcard hf, fun x hx => ?_⟩
    exact (findCard_updateCard _ _ x hcard).trans (if_neg hx)
  created := fun hf => by
    have hroom : findCard (makeRoom s.sale.memory) card = none :=
      findCard_none_iff.mpr fun x hx => findCard_none_iff.mp hf x (makeRoom_subset x hx)
    have hother : ∀ x, x ≠ card →
        findCard (s.met card slot).sale.memory x = findCard (makeRoom s.sale.memory) x := fun x hx => by
      rw [met_created hf]
      exact findCard_insertCard_other hx
    refine ⟨?_, fun hlen x hx => ?_, fun hfull v hv => ?_⟩
    · rw [met_created hf]
      exact findCard_insertCard_self (r := newCard card slot s.time) hroom
    · rw [hother x hx, makeRoom_room hlen]
    · have hne : v.card ≠ card := findCard_none_iff.mp hf v hv.held
      refine ⟨?_, fun x hx hxv => ?_⟩
      · rw [hother _ hne, makeRoom_leavesFirst hfull hv, findCard_filter_self]
      · rw [hother x hx, makeRoom_leavesFirst hfull hv, findCard_filter_other hxv]
  others := met_eq s card slot

end Step6

/-! ### Step 10 (04 R69) -/

section Step10

variable {u : State} {st : StationId} {n : Byte} {m : MetCard} {sale : Priced} {reversed : Option Nat}

/-- The context that step 10 opens. -/
def State.contextFor (u : State) (st : StationId) (m : MetCard) (sale : Priced) (reversed : Option Nat) :
    Context :=
  newContext st u.sale.assignedNumber u.hall.hallId u.consult m sale reversed

theorem contextOpened_served {s : State} (h : s.serves st) (k : Nat) :
    s.contextOpened st k = s.setStation st { s.station st with contextFlag := some k } := by
  rcases h with h | h <;> simp only [State.contextOpened, h]

/-- The Sale Engine with that context, its orders riding and its card in use. -/
def State.opened (u : State) (st : StationId) (m : MetCard) (sale : Priced) (reversed : Option Nat) : State :=
  { u with sale := { u.sale with
      contexts := insertContext (u.contextFor st m sale reversed) u.sale.contexts
      counter := nextSaleNumber u.sale.assignedNumber
      credits := rideOrders (sale.riding.map CreditOrder.id) u.sale.assignedNumber u.sale.credits
      memory := updateCard u.sale.memory m.card (CardRecord.setInUse (some st)) } }

theorem station_opened (su : StationId) : (u.opened st m sale reversed).station su = u.station su :=
  station_of_sale ..

theorem step10_eq (h : u.serves st) : u.step10 st n u.consult m sale reversed =
    (u.opened st m sale reversed).setStation st
      (({ u.station st with contextFlag := some u.sale.assignedNumber } : StationRecord).takeReply n
        (.writeOrder ((u.contextFor st m sale reversed).order u.sale.timerSetting))) := by
  have hserves : (u.opened st m sale reversed).serves st := by
    rwa [State.serves, station_opened]
  have hopened := contextOpened_served hserves u.sale.assignedNumber
  have htimer : ((u.opened st m sale reversed).contextOpened st u.sale.assignedNumber).sale.timerSetting =
      u.sale.timerSetting := State.contextOpened_sale_timerSetting ..
  show ((u.opened st m sale reversed).contextOpened st u.sale.assignedNumber).giveReply st n
    (.writeOrder ((u.contextFor st m sale reversed).order
      ((u.opened st m sale reversed).contextOpened st u.sale.assignedNumber).sale.timerSetting)) = _
  rw [htimer, hopened, State.giveReply, station_setStation, setStation_setStation, station_opened]

theorem contextFor_contextFor : ContextFor u st m.card m.slot m.target sale reversed
    (u.contextFor st m sale reversed) where
  number := rfl
  station := rfl
  card := rfl
  kind := rfl
  stamp := rfl
  generation := rfl
  figures := rfl
  riding := rfl
  expected := rfl
  newBalance := rfl
  reversed := rfl
  target := rfl
  state := rfl
  newSlot := by
    have hu : newAllowance (takenAllowance m.slot u.clock.stamp) sale.figures.a ≤ 65535 := min_le_right _ _
    have hv : newSpend (takenSpend m.slot u.clock.stamp) sale.figures.c ≤ 999999 := min_le_right _ _
    have hnew := fillSlot_newSlot m.slot.sequence sale.newBalance (u.hall.hallId.getD 0) u.sale.assignedNumber
      u.clock.stamp _ _ hu hv
    refine { hnew with allowanceUsed := ?_, spendToday := ?_ }
    · refine hnew.allowanceUsed.trans ?_
      simp only [newAllowance, Config.allowanceLimit]
      omega
    · refine hnew.spendToday.trans ?_
      simp only [newSpend, Config.spendLimit]
      omega

theorem step10_opens (h : u.serves st) :
    OpensContext u st n m.card m.slot m.target sale reversed (u.step10 st n u.consult m sale reversed)
      (u.contextFor st m sale reversed) where
  context := contextFor_contextFor
  contexts := by rw [step10_eq h]; simp [State.opened]
  counter := by rw [step10_eq h]; simp; rfl
  credits := by rw [step10_eq h]; simp; rfl
  memory := by rw [step10_eq h]; simp [State.opened]
  station := by rw [step10_eq h, station_setStation]; rfl
  stations := fun su hsu => by rw [step10_eq h, station_setStation_other _ hsu, station_opened]
  lanes := by
    rw [step10_eq h]
    exact lanesKept_of_lanes (u := u.opened st m sale reversed) rfl rfl (lanesKept_setStation _ _ _)
  engine := by rw [step10_eq h]; simp [State.opened]
  others := by rw [step10_eq h]; simp [State.opened]

end Step10

/-! ### Steps 8 and 9 (04 R68, 07 R124) -/

section Steps

variable {u : State} {st : StationId} {n : Byte} {m : MetCard} {p : Presented}

theorem priceAndOpen_full {now : Consulted}
    (h : u.totals.free ≤ u.sale.contexts.length + u.sale.doubts.length) :
    u.priceAndOpen st n now m p = u.giveReply st n (.journalFull u.totals.free) := by
  have h8 : u.step8 = some (.journalFull u.totals.free) := if_neg (Nat.not_lt.mpr h)
  simp only [State.priceAndOpen, h8]

theorem step8_room (h : u.sale.contexts.length + u.sale.doubts.length < u.totals.free) :
    u.step8 = none := if_pos h

theorem priceAndOpen_answered {now : Consulted}
    (h : u.sale.contexts.length + u.sale.doubts.length < u.totals.free)
    {r : StationReply} {j : Option Nat} (h9 : u.step9 now m p = (.answered r, j)) :
    u.priceAndOpen st n now m p = u.giveReply st n r := by
  simp only [State.priceAndOpen, step8_room h, h9]

theorem priceAndOpen_priced {now : Consulted}
    (h : u.sale.contexts.length + u.sale.doubts.length < u.totals.free)
    {sale : Priced} {j : Option Nat} (h9 : u.step9 now m p = (.priced sale, j)) :
    u.priceAndOpen st n now m p = u.step10 st n now m sale j := by
  simp only [State.priceAndOpen, step8_room h, h9]

theorem step9_basket (lines : List BasketLine) : u.step9 u.consult m (.basket lines) =
    (priceSale u.consult lines (u.priceInput m.card m.group m.allowance m.slot), none) := rfl

/-- The last-sale part of the card's record. -/
def State.lastSaleOf (u : State) (card : Nat) : Option LastSale :=
  (findCard u.sale.memory card).bind fun r => r.lastSale

theorem step9_fails {now : Consulted} {k : Nat}
    (h : reversalTest u.hall.hallId now.stamp m.slot (u.lastSaleOf m.card) = .fails k) :
    u.step9 now m .reversal = (.answered (.notReversible k), none) := by
  unfold State.lastSaleOf at h
  simp only [State.step9, h]

theorem step9_accepts {now : Consulted} {l : LastSale}
    (h : reversalTest u.hall.hallId now.stamp m.slot (u.lastSaleOf m.card) = .accepts l) :
    u.step9 now m .reversal = (.priced (reversalPriced m.slot l), some l.journal) := by
  unfold State.lastSaleOf at h
  simp only [State.step9, h]

/-! The preconditions 2 to 5 of a REVERSE. -/

variable {hall : Option Nat} {now : Stamp} {slot : PurseSlot} {l : LastSale}

theorem reversalTest_second (h : l.kind ≠ .sale ∨ l.reversed = true) :
    reversalTest hall now slot (some l) = .fails 2 := if_pos h

theorem reversalTest_third (hk : l.kind = .sale) (hr : l.reversed = false)
    (h : slot.sequence ≠ l.seqAfter ∨ ¬ carriesMark slot hall l.sale = true) :
    reversalTest hall now slot (some l) = .fails 3 :=
  (if_neg (by simp [hk, hr])).trans (if_pos h)

theorem reversalTest_after (hk : l.kind = .sale) (hr : l.reversed = false)
    (hq : slot.sequence = l.seqAfter) (hm : carriesMark slot hall l.sale = true) :
    reversalTest hall now slot (some l) =
      if l.stamp ≠ now then .fails 4
      else if 999999 < slot.money + l.c then .fails 5
      else .accepts l :=
  (if_neg (by simp [hk, hr])).trans (if_neg (by simp [hq, hm]))

theorem reversalTest_accepts (hk : l.kind = .sale) (hr : l.reversed = false)
    (hq : slot.sequence = l.seqAfter) (hm : carriesMark slot hall l.sale = true) (hs : l.stamp = now)
    (hb : slot.money + l.c ≤ 999999) : reversalTest hall now slot (some l) = .accepts l := by
  rw [reversalTest_after hk hr hq hm, if_neg (not_not.mpr hs), if_neg (Int.not_lt.mpr hb)]

/-- From the state that steps 1 to 7 left, the request answers what steps 8 to 10 give (R68, R69, R72). -/
theorem priceAndOpen_laterSteps {answers : State → Prop} (hs : u.serves st)
    (h : answers (u.priceAndOpen st n u.consult m p)) :
    LaterSteps u st n m.card m.group m.allowance m.kind m.slot m.target p answers where
  full := fun hfull => priceAndOpen_full hfull ▸ h
  sale := by
    rintro hroom lines rfl
    refine ⟨fun reply hr => ?_, fun x hx => ⟨_, u.contextFor st m x none, ?_, step10_opens hs, rfl⟩⟩
    · exact priceAndOpen_answered hroom ((step9_basket lines).trans (congrArg (·, none) hr)) ▸ h
    · exact priceAndOpen_priced hroom ((step9_basket lines).trans (congrArg (·, none) hx)) ▸ h
  reversal := by
    rintro hroom rfl last refused
    have fails {k : Nat} (hk : reversalTest u.hall.hallId u.clock.stamp m.slot last = .fails k) :
        refused k :=
      (congrArg answers (priceAndOpen_answered hroom (step9_fails (now := u.consult) hk))).mp h
    refine ⟨fun hnone => fails (by rw [hnone]; rfl), fun l hl => ?_⟩
    intro mark
    rw [hl] at fails
    have hmark : carriesMark m.slot u.hall.hallId l.sale = true ↔ mark := carriesMark_iff
    refine ⟨fun h2 => fails (reversalTest_second h2), fun hk hr =>
      ⟨fun h3 => fails (reversalTest_third hk hr (by rwa [hmark])), fun hq hm =>
        ⟨fun h4 => fails ((reversalTest_after hk hr hq (hmark.mpr hm)).trans (if_pos h4)), fun h4 =>
          ⟨fun h5 => fails ?_, fun h5 =>
            ⟨_, u.contextFor st m (reversalPriced m.slot l) (some l.journal), ?_, step10_opens hs, rfl⟩⟩⟩⟩⟩
    · exact (reversalTest_after hk hr hq (hmark.mpr hm)).trans ((if_neg (not_not.mpr h4)).trans (if_pos h5))
    · have haccepts : reversalTest u.hall.hallId u.clock.stamp m.slot last = .accepts l := by
        rw [hl]
        exact reversalTest_accepts hk hr hq (hmark.mpr hm) h4 h5
      exact priceAndOpen_priced hroom (step9_accepts (now := u.consult) haccepts) ▸ h

end Steps

end Sys2Proof.Machine

/-! PROOFS. The check order's second half, put together: the later steps (O29), the context that a SALE_OPEN and a
REVERSE open (O30, O31), and the cash-only path (O32). -/

namespace Sys2Proof.Machine

open Sys2Proof

/-! ### Step 7 and the purse path (05 R91 to R97) -/

section Purse

variable {s t u : State} {st : StationId} {n : Byte} {card : Nat} {image : CardImage} {q : Seq}
  {e : DoubtEntry} {m : MetCard} {p : Presented} {r : StationReply} {now : Consulted}

theorem step7_none (h : s.sale.doubtOfCard card = none) : s.step7 st card image q = (s, none) := by
  simp only [State.step7, h]

theorem step7_stale (h : s.sale.doubtOfCard card = some e)
    (hd : doubtResult s.hall.hallId e.data image q = .stale) : s.step7 st card image q =
      (s.queueReport (.staleDoubt card q e.data.expected e.data.sale),
        some (.staleDoubt card q e.data.expected)) := by
  simp only [State.step7, h, hd]

/-- The three results that end the entry, each with its outcome (R92 to R94). -/
theorem step7_ends (h : s.sale.doubtOfCard card = some e) {outcome : RecordOutcome}
    (ho : doubtResult s.hall.hallId e.data image q = .happened ∧ outcome = .committedLate ∨
      doubtResult s.hall.hallId e.data image q = .notHappened ∧ outcome = .voidedAfterDoubt ∨
      doubtResult s.hall.hallId e.data image q = .unresolvable ∧ outcome = .unresolved) :
    ∃ u, s.step7 st card image q = (u, none) ∧ EndsDoubt s e outcome (.card st q) u := by
  rcases ho with ⟨hd, rfl⟩ | ⟨hd, rfl⟩ | ⟨hd, rfl⟩
  · exact ⟨_, by simp only [State.step7, h, hd], endHappened_endsDoubt ..⟩
  · exact ⟨_, by simp only [State.step7, h, hd], endNotHappened_endsDoubt ..⟩
  · exact ⟨_, by simp only [State.step7, h, hd], endUnresolved_endsDoubt ..⟩

theorem pursePath_stale6 (h6 : s.step6 st m.card m.slot = (t, some r)) :
    s.pursePath st n now m image p = t.giveReply st n r := by
  simp only [State.pursePath, h6]

theorem pursePath_stale7 (h6 : s.step6 st m.card m.slot = (t, none))
    (h7 : t.step7 st m.card image m.slot.sequence = (u, some r)) :
    s.pursePath st n now m image p = u.giveReply st n r := by
  simp only [State.pursePath, h6, h7]

theorem pursePath_prices (h6 : s.step6 st m.card m.slot = (t, none))
    (h7 : t.step7 st m.card image m.slot.sequence = (u, none)) :
    s.pursePath st n now m image p = u.priceAndOpen st n now m p := by
  simp only [State.pursePath, h6, h7]

theorem met_station (s : State) (card : Nat) (slot : PurseSlot) (su : StationId) :
    (s.met card slot).station su = s.station su := by
  rw [met_eq, station_of_sale]

theorem endsDoubt_station {outcome : RecordOutcome} {way : DoubtWay} (h : EndsDoubt s e outcome way t)
    (su : StationId) : t.station su = s.station su :=
  station_of_lanes h.others.1 h.others.2.1 su

theorem endsDoubt_consult {outcome : RecordOutcome} {way : DoubtWay} (h : EndsDoubt s e outcome way t) :
    t.consult = s.consult := by
  obtain ⟨-, -, -, -, htariff, hclock, -⟩ := h.others
  simp only [State.consult, htariff, hclock]

theorem met_consult (s : State) (card : Nat) (slot : PurseSlot) : (s.met card slot).consult = s.consult := by
  rw [met_eq]; rfl

theorem met_priceInput (s : State) (card g : Nat) (allowance : Bool) (slot slot' : PurseSlot) :
    (s.met card slot).priceInput card g allowance slot' = s.priceInput card g allowance slot' := by
  rw [met_eq]; rfl

end Purse

/-! ### The card that has passed the first five steps -/

section Passed

variable {s : State} {i : Instr} {q : StationRequest} {p : Presented} {st : StationId} {n : Byte}
  {image : CardImage} {lines : List BasketLine} {kind : CardKind} {g entry : Nat} {allowance : Bool}
  {slot : PurseSlot} {target : SlotIndex}

/-- Steps 1 to 5 leave the purse path to answer. -/
theorem exec_purse (hi : i = .saleOpen ∧ q = .saleOpen image lines ∧ p = .basket lines ∨
      i = .reverse ∧ q = .reverse image ∧ p = .reversal)
    (hrun : s.running = true) (hnext : s.nextRequest = some (.station st n q)) (ho : p.offence = none)
    (hm : s.hall.mode = .serving) (hs : s.serves st)
    (hrole : p = .reversal → (s.station st).role = some .supervisor) (hc : s.sale.contextOf st = none)
    (hid : identityCheck image.identity s.clock.day = some kind)
    (hd : s.decoder.decode image.identity.card.toNat = .purse g allowance entry)
    (hsel : selectSlot image = .current slot target)
    (hcc : s.sale.contextOfCard image.identity.card.toNat = none) :
    exec i s = .next (s.dequeued.pursePath st n s.consult
      ⟨image.identity.card.toNat, kind, g, allowance, slot, target⟩ image p) := by
  rw [exec_presents hi hrun hnext, present_passed ho hm hs hrole hc hid,
    sortCard_purse (s := s.dequeued) hd hsel hcc]

/-- A card with no doubt entry that step 6 passes is priced in the state that step 6 leaves. -/
theorem pursePath_fresh {m : MetCard}
    (h6 : ∀ r, findCard s.sale.memory m.card = some r → staleReason r m.slot = none)
    (hd : s.sale.doubtOfCard m.card = none) :
    s.dequeued.pursePath st n s.consult m image p =
      (s.dequeued.met m.card m.slot).priceAndOpen st n s.consult m p := by
  refine pursePath_prices (step6_passes (s := s.dequeued) h6) (step7_none ?_)
  rw [met_eq]
  exact hd

end Passed

/-- Settles O29: step 6 by its table, step 7 by the end it gives the entry, and steps 8 to 10 from the state
those leave. -/
theorem laterStepsAnswer : Obligations.LaterStepsAnswer := by
  intro s i q p st n image lines kind g entry allowance slot target card hi hrun hnext ho hm hs hrole hc hid hd
    hsel hcc seq answers
  have hexec := exec_purse hi hrun hnext ho hm hs hrole hc hid hd hsel hcc
  refine ⟨fun r => ⟨staleReason_newer, fun hq hb => (staleReason_same hq).trans (if_pos hb),
    fun hq hb => (staleReason_same hq).trans (if_neg hb), staleReason_older, staleReason_opposed,
    meetRecord_stale _⟩, fun r why hf hw => ?stale, fun hpass => ?passes⟩
  case stale =>
    exact hexec.trans (congrArg _ (pursePath_stale6 (step6_stale (s := s.dequeued) hf hw)))
  case passes =>
    have h6 := step6_passes (s := s.dequeued) (st := st) hpass
    have serves {t : State} (h : t.station st = (s.dequeued.met card slot).station st) : t.serves st := by
      rw [State.serves, h, met_station, station_dequeued]
      exact hs
    have hmet : s.consult = (s.dequeued.met card slot).consult := (met_consult s.dequeued card slot).symm
    have prices {u : State} (h7 : (s.dequeued.met card slot).step7 st card image slot.sequence = (u, none))
        (hu : u.consult = s.consult) :
        answers (u.priceAndOpen st n u.consult ⟨card, kind, g, allowance, slot, target⟩ p) := by
      rw [hu]
      exact hexec.trans (congrArg _ (pursePath_prices h6 h7))
    have hdoubt : (s.dequeued.met card slot).sale.doubtOfCard card = s.sale.doubtOfCard card := by
      rw [met_eq]; rfl
    have hhall : (s.dequeued.met card slot).hall = s.hall := by rw [met_eq]; rfl
    refine ⟨s.dequeued.met card slot, met_meetsCard hpass, fun hnone => ?_, fun e he => ⟨fun hstale => ?_,
      fun outcome houtcome => ?_⟩⟩
    · exact priceAndOpen_laterSteps (m := ⟨card, kind, g, allowance, slot, target⟩) (serves rfl)
        (prices (step7_none (hdoubt.trans hnone)) hmet.symm)
    · have h7 := step7_stale (st := st) (hdoubt.trans he) (hhall ▸ hstale)
      exact hexec.trans (congrArg _ (pursePath_stale7 h6 h7))
    · obtain ⟨u, h7, hends⟩ := step7_ends (st := st) (hdoubt.trans he) (hhall ▸ houtcome)
      exact ⟨u, hends, priceAndOpen_laterSteps (m := ⟨card, kind, g, allowance, slot, target⟩)
        (serves (endsDoubt_station hends st)) (prices h7 ((endsDoubt_consult hends).trans hmet.symm))⟩

/-! ### The number a context takes (04 R64) -/

/-- The sale number that is `k` after `c`, 1 following 65535. -/
def numberAfter (c k : Nat) : Nat := (c - 1 + k) % 65535 + 1

theorem numberAfter_zero {c : Nat} (h1 : 1 ≤ c) (h2 : c ≤ 65535) : numberAfter c 0 = c := by
  unfold numberAfter
  omega

theorem numberAfter_succ (c k : Nat) : nextSaleNumber (numberAfter c k) = numberAfter c (k + 1) := by
  unfold nextSaleNumber numberAfter
  split_ifs <;> omega

theorem numberAfter_range (c k : Nat) : 1 ≤ numberAfter c k ∧ numberAfter c k ≤ 65535 := by
  simp only [numberAfter]
  omega

/-- The numbers passed over are held, and the walk ends before its fuel only at a free one. -/
theorem passHeld_walk (held : List Nat) (c fuel k : Nat) :
    ∃ j ≤ fuel, passHeld held fuel (numberAfter c k) = numberAfter c (k + j) ∧
      (∀ x < j, numberAfter c (k + x) ∈ held) ∧ (j < fuel → numberAfter c (k + j) ∉ held) := by
  induction fuel generalizing k with
  | zero => exact ⟨0, le_rfl, rfl, nofun, nofun⟩
  | succ fuel ih =>
    by_cases h : numberAfter c k ∈ held
    · obtain ⟨j, hj, hpass, hheld, hfree⟩ := ih (k + 1)
      have assoc (x : Nat) : k + 1 + x = k + (x + 1) := by omega
      rw [assoc] at hpass hfree
      refine ⟨j + 1, by omega, ?_, fun x hx => ?_, fun hlt => hfree (by omega)⟩
      · rw [passHeld, if_pos h, numberAfter_succ, hpass]
      · cases x with
        | zero => exact h
        | succ x => exact assoc x ▸ hheld x (by omega)
    · exact ⟨0, Nat.zero_le _, by rw [passHeld, if_neg h]; rfl, nofun, fun _ => h⟩

/-- More numbers than the held ones cannot all be held. -/
theorem not_all_held {held : List Nat} {c j : Nat} (hj : j < 65535) (hlen : held.length ≤ j) :
    ¬ ∀ x ≤ j, numberAfter c x ∈ held := by
  intro hall
  have hnodup : ((List.range (j + 1)).map (numberAfter c)).Nodup := by
    refine List.nodup_range.map_on fun x hx y hy hxy => ?_
    rw [List.mem_range] at hx hy
    simp only [numberAfter] at hxy
    omega
  have hsub : (List.range (j + 1)).map (numberAfter c) ⊆ held := fun y hy => by
    obtain ⟨x, hx, rfl⟩ := List.mem_map.mp hy
    exact hall x (by rw [List.mem_range] at hx; omega)
  have := (hnodup.subperm hsub).length_le
  rw [List.length_map, List.length_range] at this
  omega

/-- The number is the first free one from the counter on. -/
theorem assignedNumber_first {e : SaleEngine} (h1 : 1 ≤ e.counter) (h2 : e.counter ≤ 65535)
    (hlen : e.heldNumbers.length < 65535) :
    ∃ j < 65535, e.assignedNumber = numberAfter e.counter j ∧ e.assignedNumber ∉ e.heldNumbers ∧
      ∀ x < j, numberAfter e.counter x ∈ e.heldNumbers := by
  obtain ⟨j, hj, hpass, hheld, hfree⟩ := passHeld_walk e.heldNumbers e.counter e.heldNumbers.length 0
  simp only [Nat.zero_add] at hpass hheld hfree
  rw [numberAfter_zero h1 h2] at hpass
  have hfree' : numberAfter e.counter j ∉ e.heldNumbers := by
    rcases Nat.lt_or_eq_of_le hj with hlt | rfl
    · exact hfree hlt
    · intro hmem
      refine not_all_held (c := e.counter) hlen le_rfl fun x hx => ?_
      rcases Nat.lt_or_eq_of_le hx with hlt | rfl
      · exact hheld x hlt
      · exact hmem
  have hassigned : e.assignedNumber = numberAfter e.counter j := hpass
  exact ⟨j, by omega, hassigned, hassigned ▸ hfree', hheld⟩

theorem assignedNumber_free {e : SaleEngine} (h1 : 1 ≤ e.counter) (h2 : e.counter ≤ 65535)
    (hlen : e.heldNumbers.length < 65535) :
    (1 ≤ e.assignedNumber ∧ e.assignedNumber ≤ 65535) ∧ e.assignedNumber ∉ e.heldNumbers := by
  obtain ⟨j, -, hn, hfree, -⟩ := assignedNumber_first h1 h2 hlen
  exact ⟨hn ▸ numberAfter_range .., hfree⟩

/-! ### The contexts that a SALE_OPEN and a REVERSE open -/

theorem takeReply_opened {r : StationRecord} {n : Byte} (h : r.outstanding = some ⟨n, false⟩) (k : Option Nat)
    (reply : StationReply) : ({ r with contextFlag := k } : StationRecord).takeReply n reply =
      { r with contextFlag := k, slot := some ⟨n, reply, false⟩ } := by
  simp [StationRecord.takeReply, h]

/-- A priced sale of a card that passes, in the state that step 6 leaves. -/
theorem opens_of_priced {s : State} {i : Instr} {st : StationId} {n : Byte} {image : CardImage}
    {p : Presented} {m : MetCard} {sale : Priced} {reversed : Option Nat} (hs : s.serves st)
    (hpass : ∀ r, findCard s.sale.memory m.card = some r → staleReason r m.slot = none)
    (hd : s.sale.doubtOfCard m.card = none)
    (hroom : s.sale.contexts.length + s.sale.doubts.length < s.totals.free)
    (hexec : exec i s = .next (s.dequeued.pursePath st n s.consult m image p))
    (h9 : (s.dequeued.met m.card m.slot).step9 s.consult m p = (.priced sale, reversed))
    (hout : (s.station st).outstanding = some ⟨n, false⟩) :
    ∃ (met t : State) (c : Context), MeetsCard s.dequeued m.card m.slot met ∧
      exec i s = .next t ∧ OpensContext met st n m.card m.slot m.target sale reversed t c ∧
      c.data.cardKind = m.kind ∧
      t.station st = { s.station st with
        contextFlag := some c.data.sale
        slot := some ⟨n, .writeOrder (c.order s.sale.timerSetting), false⟩ } := by
  have hstation : (s.dequeued.met m.card m.slot).station st = s.station st := by
    rw [met_station, station_dequeued]
  have htimer : (s.dequeued.met m.card m.slot).sale.timerSetting = s.sale.timerSetting := by
    rw [met_eq]; rfl
  have hroom' : (s.dequeued.met m.card m.slot).sale.contexts.length +
      (s.dequeued.met m.card m.slot).sale.doubts.length < (s.dequeued.met m.card m.slot).totals.free := by
    rw [met_eq]; exact hroom
  have hserves : (s.dequeued.met m.card m.slot).serves st := by
    rw [State.serves, hstation]
    exact hs
  have hopens := step10_opens (n := n) (m := m) (sale := sale) (reversed := reversed) hserves
  have hanswer : exec i s = .next ((s.dequeued.met m.card m.slot).step10 st n
      (s.dequeued.met m.card m.slot).consult m sale reversed) := by
    rw [hexec, pursePath_fresh hpass hd, priceAndOpen_priced hroom' h9, met_consult]
    rfl
  refine ⟨_, _, _, met_meetsCard (s := s.dequeued) hpass, hanswer, hopens, rfl, ?_⟩
  rw [hopens.station, hstation, htimer]
  exact takeReply_opened hout _ _

/-- Settles O30. -/
theorem saleOpenOrdersWrite : Obligations.SaleOpenOrdersWrite := by
  refine ⟨fun p now => ?counters, fun e h1 h2 hlen => ?number, ?opens⟩
  case counters =>
    constructor
    case same => exact fun hd hp => if_pos ⟨hd, hp⟩
    case period => exact fun hp => if_neg fun h => hp h.2
    case today => exact fun hd => if_pos hd
    case day => exact fun hd => ⟨if_neg fun h => hd h.1, if_neg hd⟩
  case number =>
    intro n
    obtain ⟨j, hj, hn, hfree, hheld⟩ := assignedNumber_first h1 h2 (by omega)
    obtain ⟨hlow, hhigh⟩ := numberAfter_range e.counter j
    have hn' : n = numberAfter e.counter j := hn
    refine ⟨hn' ▸ hlow, hn' ▸ hhigh, hfree, fun m hm1 hm2 hm => ?_⟩
    have hdist : (n + 65535 - e.counter) % 65535 = j := by
      rw [hn']
      simp only [numberAfter]
      omega
    rw [hdist]
    by_contra hlt
    refine hm ?_
    have := hheld ((m + 65535 - e.counter) % 65535) (by omega)
    rwa [show numberAfter e.counter ((m + 65535 - e.counter) % 65535) = m by
      simp only [numberAfter]; omega] at this
  case opens =>
    intro s st n image lines kind g entry allowance slot target sale card hrun hnext ho hm hs hc hid hdec hsel hcc
      hpass hdoubt hroom hprice hout
    have hexec := exec_purse (.inl ⟨rfl, rfl, rfl⟩) hrun hnext ho hm hs nofun hc hid hdec hsel hcc
    refine opens_of_priced (m := ⟨card, kind, g, allowance, slot, target⟩) hs hpass hdoubt hroom hexec ?_ hout
    have h9 := step9_basket (u := s.dequeued.met card slot) (m := ⟨card, kind, g, allowance, slot, target⟩) lines
    rw [met_consult, met_priceInput] at h9
    exact h9.trans (congrArg (·, none) hprice)

/-- Settles O31. -/
theorem reverseOrdersWrite : Obligations.ReverseOrdersWrite := by
  intro s st n image kind g entry allowance slot target r l card hrun hnext hm hs hrole hc hid hdec hsel hcc hf
    hpass hdoubt hroom hlast hkind hrev hseq hmark hstamp hbal hout
  have hexec := exec_purse (lines := []) (.inr ⟨rfl, rfl, rfl⟩) hrun hnext rfl hm hs (fun _ => hrole) hc hid hdec
    hsel hcc
  have hpass' : ∀ x, findCard s.sale.memory card = some x → staleReason x slot = none := fun x hx => by
    rw [hf] at hx
    exact Option.some.inj hx ▸ hpass
  refine opens_of_priced (m := ⟨card, kind, g, allowance, slot, target⟩) hs hpass' hdoubt hroom hexec
    (step9_accepts ?_) hout
  have hmet := (met_meetsCard (s := s.dequeued) hpass').found r hf
  have hlastOf : (s.dequeued.met card slot).lastSaleOf card = some l := by
    rw [State.lastSaleOf, hmet.1]
    exact hlast
  rw [hlastOf]
  refine reversalTest_accepts hkind hrev hseq ?_ hstamp hbal
  rw [met_eq]
  exact hmark

/-! ### The cash-only path (02 R36, 04 R70) -/

section Cash

variable {s : State} {st : StationId} {n : Byte} {now : Consulted} {card g : Nat} {kind : CardKind}
  {lines : List BasketLine}

theorem cashPath_full {p : Presented}
    (h : s.totals.free ≤ s.sale.contexts.length + s.sale.doubts.length) :
    s.cashPath st n now card kind g p = s.giveReply st n (.journalFull s.totals.free) := by
  have h8 : s.step8 = some (.journalFull s.totals.free) := if_neg (Nat.not_lt.mpr h)
  simp only [State.cashPath, h8]

theorem cashPath_reversal (h : s.sale.contexts.length + s.sale.doubts.length < s.totals.free) :
    s.cashPath st n now card kind g .reversal = s.giveReply st n (.notReversible 1) := by
  simp only [State.cashPath, step8_room h]

theorem cashPath_refused (h : s.sale.contexts.length + s.sale.doubts.length < s.totals.free)
    {r : StationReply} (hg : grossOf now lines = .refused r) :
    s.cashPath st n now card kind g (.basket lines) = s.giveReply st n r := by
  simp only [State.cashPath, step8_room h, priceCash, hg]

/-- S of a cash-only sale of the gross `x`. -/
def cashSubsidy (now : Consulted) (g x : Nat) : Nat :=
  subsidyOf x ((groupFigures now.active g).subsidy.get (periodIndex now.stamp.period))

theorem cashPath_empty (h : s.sale.contexts.length + s.sale.doubts.length < s.totals.free) :
    s.cashPath st n now card kind g (.basket []) = s.giveReply st n (.cashOnly 0 0 0) := by
  have hg : grossOf now [] = .total 0 := grossOf_sold (.inl rfl) (by simp)
  have hsub : subsidyOf 0 ((groupFigures now.active g).subsidy.get (periodIndex now.stamp.period)) = 0 := by
    rw [subsidyOf_eq]
    omega
  simp [State.cashPath, step8_room h, priceCash, hg, hsub]

theorem cashPath_sold (h : s.sale.contexts.length + s.sale.doubts.length < s.totals.free) {x : Nat}
    (hl : lines ≠ []) (hg : grossOf now lines = .total x) :
    s.cashPath st n now card kind g (.basket lines) =
      (s.appendRecord (cashRecord st card kind now x (cashSubsidy now g x)
        (x - cashSubsidy now g x))).giveReply st n
          (.cashOnly x (cashSubsidy now g x) (x - cashSubsidy now g x : Nat)) := by
  simp only [State.cashPath, step8_room h, priceCash, hg, if_neg hl]
  rfl

/-- `t` is `s` with the record `b` appended and the reply handed to the station's lane. -/
structure Records (s : State) (b : RecordBody) (st : StationId) (n : Byte) (r : StationReply) (t : State) :
    Prop where
  totals : t.totals = s.totalsAfter b
  office : t.office = s.office.reported (s.highReports b)
  station : t.station st = (s.station st).takeReply n r
  stations : ∀ su, su ≠ st → t.station su = s.station su
  lanes : s.LanesKept t
  others : t.sale = s.sale ∧ t.hall = s.hall ∧ t.decoder = s.decoder ∧ t.tariff = s.tariff ∧
    t.clock = s.clock ∧ t.pending = s.pending

theorem appendRecord_records (s : State) (b : RecordBody) (st : StationId) (n : Byte) (r : StationReply) :
    Records s b st n r ((s.appendRecord b).giveReply st n r) := by
  have hstation (su : StationId) : (s.appendRecord b).station su = s.station su :=
    station_of_lanes (State.appendRecord_laneA ..) (State.appendRecord_laneB ..) su
  constructor
  case totals => rw [State.giveReply_totals, appendRecord_eq]
  case office => rw [State.giveReply_office, appendRecord_eq]
  case station => rw [State.giveReply, station_setStation, hstation]
  case stations => exact fun su hsu => (station_setStation_other _ hsu _).trans (hstation su)
  case lanes =>
    exact lanesKept_of_lanes (State.appendRecord_laneA ..) (State.appendRecord_laneB ..)
      (lanesKept_setStation _ _ _)
  case others => simp

theorem count_cash (t : Counters) (now : Consulted) (x sub c : Nat) :
    t.count (cashRecord st card kind now x sub c) =
      { t with cashCount := satAdd t.cashCount 1, cashSum := satAdd t.cashSum c } := by
  simp [Counters.count, cashRecord]

end Cash

/-- Settles O32: past step 8 the request is priced through the stages 1 to 4, and a sale leaves its record. -/
theorem cashSaleJournalled : Obligations.CashSaleJournalled := by
  intro s i q p st n image lines kind g entry card hi hrun hnext ho hm hs hrole hc hid hdec refusedWith period
    found sold
  have hexec : exec i s = .next (s.dequeued.cashPath st n s.consult card kind g p) := by
    rw [exec_presents hi hrun hnext, present_passed ho hm hs hrole hc hid,
      sortCard_cashOnly (s := s.dequeued) hdec]
  have answer {r : StationReply}
      (h : s.dequeued.cashPath st n s.consult card kind g p = s.dequeued.giveReply st n r) :
      refusedWith r := hexec.trans (congrArg _ h)
  refine ⟨fun hfull => answer (cashPath_full hfull), fun hroom => ⟨?reversal, ?basket⟩⟩
  case reversal =>
    rintro rfl
    exact answer (cashPath_reversal hroom)
  case basket =>
    rintro rfl
    have refuse {r : StationReply} (hg : grossOf s.consult lines = .refused r) : refusedWith r :=
      answer (cashPath_refused (s := s.dequeued) hroom hg)
    refine ⟨?_, fun hl hk => refuse (grossOf_closed hl hk), fun hk => ⟨?_, fun hl hsold => ?_⟩⟩
    · rintro rfl
      exact answer (cashPath_empty hroom)
    · rintro before l after rfl hbefore
      refine ⟨fun hnone => refuse (grossOf_failing hk hbefore ?_),
        fun x hx hmask => refuse (grossOf_failing hk hbefore ?_)⟩
      · rw [Nat.add_comm]
        exact priceLines_unknown _ _ hnone
      · rw [Nat.add_comm]
        exact priceLines_notNow _ _ hx hmask
    · intro gross sub charge
      have hg := grossOf_sold (now := s.consult) (.inr hk) hsold
      refine ⟨fun hover => refuse (hg.trans (if_pos hover)), fun hfits => ?_⟩
      have hpath := cashPath_sold (s := s.dequeued) (st := st) (n := n) (card := card) (kind := kind) (g := g)
        hroom hl (hg.trans (if_neg (Nat.not_lt.mpr hfits)))
      obtain ⟨t, hnext, hrecords⟩ : ∃ t, exec i s = .next t ∧ Records s.dequeued
          (cashRecord st card kind s.consult gross sub charge) st n (.cashOnly gross sub charge) t :=
        ⟨_, hexec.trans (congrArg _ hpath), appendRecord_records ..⟩
      obtain ⟨htotals, hoffice, hstation, hstations, hlanes, hsale, hothers⟩ := hrecords
      have hcount (k : Counters) := count_cash (st := st) (card := card) (kind := kind) k s.consult gross sub charge
      refine ⟨t, ⟨s.totals.next, s.time, cashRecord st card kind s.consult gross sub charge⟩, hnext,
        congrArg JournalTotals.journal htotals,
        ⟨rfl, rfl, rfl, rfl, rfl, rfl, rfl, rfl, rfl, rfl, rfl, rfl, rfl, rfl, rfl, rfl, rfl, rfl, rfl⟩,
        htotals, hoffice, ?_, ?_, fun other hne => ⟨?_, ?_, (hstations other hne).trans (station_dequeued ..)⟩,
        hstation.trans (congrArg (StationRecord.takeReply · n _) (station_dequeued ..)),
        lanesKept_of_lanes rfl rfl hlanes, hsale, hothers⟩
      · rw [htotals]
        exact (stationGet_stationSet_self ..).trans (hcount _)
      · rw [htotals]
        exact (stationGet_stationSet_self ..).trans (hcount _)
      · rw [htotals]
        exact stationGet_stationSet_other _ _ hne
      · rw [htotals]
        exact stationGet_stationSet_other _ _ hne

end Sys2Proof.Machine

/-! PROOFS. The books that the laws of the journal, of the cards and of the context flags speak of, the moves that
the commands make on them, and that each move keeps each law. -/

namespace Sys2Proof.Machine

open Sys2Proof

/-! ### The books -/

/-- What R178 and R179 speak of in the Journal and Totals unit: its records, the next number, EXHAUSTED. -/
def JournalTotals.book (j : JournalTotals) : JournalTotals :=
  { JournalTotals.initial with journal := j.journal, next := j.next, exhausted := j.exhausted }

/-- The sales of the contexts and of the doubt entries, Card Memory, the sale counter, the journal, and the
context flags of the stations. -/
structure Books where
  sales : List SaleData
  doubts : List SaleData
  memory : List CardRecord
  counter : Nat
  totals : JournalTotals
  flags : StationId → Option Nat

def State.books (s : State) : Books where
  sales := s.sale.contexts.map (·.data)
  doubts := s.sale.doubts.map (·.data)
  memory := s.sale.memory
  counter := s.sale.counter
  totals := s.totals.book
  flags := fun st => (s.station st).contextFlag

def Books.held (b : Books) : List Nat := (b.sales ++ b.doubts).map (·.sale)

/-- The journal's law. -/
structure Books.Journalled (b : Books) : Prop where
  consecutive : b.totals.Consecutive
  distinct : b.held.Nodup
  range : ∀ n ∈ b.held, 1 ≤ n ∧ n ≤ 65535
  counter : 1 ≤ b.counter ∧ b.counter ≤ 65535
  reserved : b.sales.length + b.doubts.length ≤ b.totals.free

/-- The cards' law. -/
structure Books.Carded (b : Books) : Prop where
  stations : (b.sales.map (·.station)).Nodup
  few : b.doubts.length ≤ 64
  cards : ((b.sales ++ b.doubts).map (·.card)).Nodup
  records : (b.memory.map (·.card)).Nodup
  size : b.memory.length ≤ 4096
  inUse : ∀ d ∈ b.sales, ∃ r ∈ b.memory, r.card = d.card ∧ r.inUse = some d.station
  inUseBack : ∀ r ∈ b.memory, ∀ st, r.inUse = some st → ∃ d ∈ b.sales, d.card = r.card ∧ d.station = st
  doubted : ∀ d ∈ b.doubts, ∃ r ∈ b.memory, r.card = d.card ∧ r.doubt = true
  doubtedBack : ∀ r ∈ b.memory, r.doubt = true → ∃ d ∈ b.doubts, d.card = r.card

/-- The law of the context flags. -/
def Books.Flagged (b : Books) : Prop :=
  ∀ st n, b.flags st = some n ↔ ∃ d ∈ b.sales, d.station = st ∧ d.sale = n

theorem consecutive_book {j : JournalTotals} : j.book.Consecutive ↔ j.Consecutive :=
  ⟨fun h => ⟨h.next_pos, h.next_le, h.exhausted, h.size, h.given, h.numbers⟩,
    fun h => ⟨h.next_pos, h.next_le, h.exhausted, h.size, h.given, h.numbers⟩⟩

theorem held_books (s : State) : s.books.held = s.sale.heldNumbers := by
  simp [Books.held, State.books, SaleEngine.heldNumbers, Function.comp_def]

theorem journalLaw_iff {s : State} : s.JournalLaw ↔ s.books.Journalled := by
  have hlengths : s.books.sales.length + s.books.doubts.length =
      s.sale.contexts.length + s.sale.doubts.length := by simp [State.books]
  constructor
  · intro h
    refine ⟨consecutive_book.mpr h.consecutive, held_books s ▸ h.numbered.distinct,
      held_books s ▸ h.numbered.range, ⟨h.numbered.counter_pos, h.numbered.counter_le⟩, ?_⟩
    rw [hlengths]
    exact h.reserved
  · intro h
    refine ⟨consecutive_book.mp h.consecutive,
      ⟨held_books s ▸ h.distinct, held_books s ▸ h.range, h.counter.1, h.counter.2⟩, ?_⟩
    have := h.reserved
    rwa [hlengths] at this

theorem cardsHeld_iff {s : State} : s.sale.CardsHeld ↔ s.books.Carded := by
  have hcards : (s.books.sales ++ s.books.doubts).map (·.card) = s.sale.inFlight.map (·.card) := rfl
  have hstations : s.books.sales.map (·.station) = s.sale.contexts.map (·.data.station) := by
    simp [State.books, Function.comp_def]
  constructor
  · intro h
    exact
      { stations := hstations ▸ h.stations
        few := by simpa [State.books] using h.doubts
        cards := hcards ▸ h.cards
        records := h.records
        size := h.size
        inUse := List.forall_mem_map.mpr h.inUse
        inUseBack := fun r hr st hst =>
          let ⟨c, hc, heq⟩ := h.inUseBack r hr st hst
          ⟨c.data, List.mem_map_of_mem hc, heq⟩
        doubted := List.forall_mem_map.mpr h.doubted
        doubtedBack := fun r hr hd =>
          let ⟨e, he, heq⟩ := h.doubtedBack r hr hd
          ⟨e.data, List.mem_map_of_mem he, heq⟩ }
  · intro h
    exact
      { stations := hstations ▸ h.stations
        doubts := by simpa [State.books] using h.few
        cards := hcards ▸ h.cards
        records := h.records
        size := h.size
        inUse := fun c hc => h.inUse c.data (List.mem_map_of_mem hc)
        inUseBack := fun r hr st hst =>
          let ⟨_, hd, heq⟩ := h.inUseBack r hr st hst
          let ⟨c, hc, hcd⟩ := List.mem_map.mp hd
          ⟨c, hc, hcd ▸ heq⟩
        doubted := fun e he => h.doubted e.data (List.mem_map_of_mem he)
        doubtedBack := fun r hr hdoubt =>
          let ⟨_, hd, heq⟩ := h.doubtedBack r hr hdoubt
          let ⟨e, he, hed⟩ := List.mem_map.mp hd
          ⟨e, he, hed ▸ heq⟩ }

theorem flagsAgree_iff {s : State} : s.FlagsAgree ↔ s.books.Flagged := by
  have hmem (P : SaleData → Prop) : (∃ d ∈ s.books.sales, P d) ↔ ∃ c ∈ s.sale.contexts, P c.data := by
    simp [State.books]
  simp only [State.FlagsAgree, Books.Flagged, hmem]
  rfl

/-! ### The moves -/

/-- A change of a card's record that keeps its card and sets its two flags so. -/
structure Flags (f : CardRecord → CardRecord) (inUse : Option StationId → Option StationId)
    (doubt : Bool → Bool) : Prop where
  card : ∀ r, (f r).card = r.card
  inUse : ∀ r, (f r).inUse = inUse r.inUse
  doubt : ∀ r, (f r).doubt = doubt r.doubt

namespace Books

/-- A context leaves its table. -/
def ended (b : Books) (d : SaleData) (f : CardRecord → CardRecord) : Books :=
  { b with
    sales := b.sales.filter fun x => x.sale ≠ d.sale
    memory := updateCard b.memory d.card f
    flags := fun st => if st = d.station then none else b.flags st }

/-- A doubt entry leaves its list. -/
def resolved (b : Books) (d : SaleData) (f : CardRecord → CardRecord) : Books :=
  { b with
    doubts := b.doubts.filter fun x => x.sale ≠ d.sale
    memory := updateCard b.memory d.card f }

/-- A context moves to the Doubt List. -/
def moved (b : Books) (d : SaleData) (f : CardRecord → CardRecord) : Books :=
  { b with
    sales := b.sales.filter fun x => x.sale ≠ d.sale
    doubts := b.doubts ++ [d]
    memory := updateCard b.memory d.card f
    flags := fun st => if st = d.station then none else b.flags st }

/-- A card's record changes, but for its flags. -/
def noted (b : Books) (card : Nat) (f : CardRecord → CardRecord) : Books :=
  { b with memory := updateCard b.memory card f }

/-- A card's record is created. -/
def created (b : Books) (r : CardRecord) : Books :=
  { b with memory := insertCard r (makeRoom b.memory) }

/-- A context is opened, `sales` being the table with it. -/
def opened (b : Books) (d : SaleData) (sales : List SaleData) (f : CardRecord → CardRecord) : Books :=
  { b with
    sales := sales
    counter := nextSaleNumber d.sale
    memory := updateCard b.memory d.card f
    flags := fun st => if st = d.station then some d.sale else b.flags st }

/-- A record joins the journal. -/
def appended (b : Books) (now : Time) (r : RecordBody) : Books :=
  { b with totals := (b.totals.append now r).book }

/-- The records numbered up to `n` leave the journal. -/
def released (b : Books) (n : Nat) : Books :=
  { b with totals := { b.totals with journal := b.totals.journal.filter fun r => decide (n < r.number) } }

end Books

/-- What the commands make of the books `b₀`, move by move. The conditions that rest on a law rest on that of
`b₀`: what they say of the books before the move follows from it. -/
inductive BookRun (b₀ : Books) : Books → Prop where
  | start : BookRun b₀ b₀
  | cold : BookRun b₀ State.reset.books
  | ended {b : Books} {d : SaleData} {f : CardRecord → CardRecord} (h : BookRun b₀ b) (hd : d ∈ b.sales)
      (hf : Flags f (fun _ => none) id) : BookRun b₀ (b.ended d f)
  | resolved {b : Books} {d : SaleData} {f : CardRecord → CardRecord} (h : BookRun b₀ b)
      (hd : d ∈ b.doubts) (hf : Flags f id fun _ => false) : BookRun b₀ (b.resolved d f)
  | moved {b : Books} {d : SaleData} {f : CardRecord → CardRecord} (h : BookRun b₀ b) (hd : d ∈ b.sales)
      (hf : Flags f (fun _ => none) fun _ => true)
      (hroom : b₀.Journalled → b₀.Carded → b.doubts.length < 64) : BookRun b₀ (b.moved d f)
  | noted {b : Books} {card : Nat} {f : CardRecord → CardRecord} (h : BookRun b₀ b) (hf : Flags f id id) :
      BookRun b₀ (b.noted card f)
  | created {b : Books} {r : CardRecord} (h : BookRun b₀ b) (hr : r.clear)
      (hnew : findCard b.memory r.card = none) : BookRun b₀ (b.created r)
  | opened {b : Books} {d : SaleData} {sales : List SaleData} {f : CardRecord → CardRecord}
      (h : BookRun b₀ b) (hsales : sales.Perm (d :: b.sales))
      (hnumber : b₀.Journalled → (1 ≤ d.sale ∧ d.sale ≤ 65535) ∧ d.sale ∉ b.held)
      (hroom : b.sales.length + b.doubts.length < b.totals.free)
      (hstation : ∀ x ∈ b.sales, x.station ≠ d.station) (hcard : ∀ x ∈ b.sales, x.card ≠ d.card)
      (hdoubt : b₀.Journalled → b₀.Carded → ∀ x ∈ b.doubts, x.card ≠ d.card)
      (hrecord : ∃ r ∈ b.memory, r.card = d.card) (hf : Flags f (fun _ => some d.station) id) :
      BookRun b₀ (b.opened d sales f)
  | appended {b : Books} {now : Time} {r : RecordBody} (h : BookRun b₀ b)
      (hroom : b₀.Journalled → b.sales.length + b.doubts.length < b.totals.free) :
      BookRun b₀ (b.appended now r)
  | released {b : Books} {n : Nat} (h : BookRun b₀ b) : BookRun b₀ (b.released n)

/-! ### The journal's law (11 R178, R179, 04 R64) -/

section Journal

variable {b : Books} {d : SaleData} {f : CardRecord → CardRecord}

theorem held_ended (h : b.Journalled) (hd : d ∈ b.sales) : b.held.Perm (d.sale :: (b.ended d f).held) := by
  have hn : (b.sales.map (·.sale)).Nodup := by
    have := h.distinct
    rw [Books.held, List.map_append] at this
    exact this.of_append_left
  exact ((perm_cons_filter_ne hd hn).append_right b.doubts).map (·.sale)

theorem held_resolved (h : b.Journalled) (hd : d ∈ b.doubts) :
    b.held.Perm (d.sale :: (b.resolved d f).held) := by
  have hn : (b.doubts.map (·.sale)).Nodup := by
    have := h.distinct
    rw [Books.held, List.map_append] at this
    exact this.of_append_right
  exact (((perm_cons_filter_ne hd hn).append_left b.sales).trans List.perm_middle).map (·.sale)

theorem held_moved (h : b.Journalled) (hd : d ∈ b.sales) : b.held.Perm (b.moved d f).held := by
  refine (held_ended (f := f) h hd).trans ?_
  simp only [Books.held, Books.moved, Books.ended, List.map_append, List.map_cons, List.map_nil]
  rw [← List.append_assoc]
  exact (List.perm_append_singleton ..).symm

theorem Books.length_held (b : Books) : b.held.length = b.sales.length + b.doubts.length := by
  simp [Books.held]

theorem Books.Journalled.ended (h : b.Journalled) (hd : d ∈ b.sales) : (b.ended d f).Journalled := by
  have hperm := held_ended (f := f) h hd
  have hlen := hperm.length_eq
  rw [List.length_cons, Books.length_held, Books.length_held] at hlen
  have hreserved := h.reserved
  exact
    { consecutive := h.consecutive
      distinct := (List.nodup_cons.mp (hperm.nodup_iff.mp h.distinct)).2
      range := fun n hn => h.range n (hperm.mem_iff.mpr (List.mem_cons_of_mem _ hn))
      counter := h.counter
      reserved := by
        show _ ≤ b.totals.free
        omega }

theorem Books.Journalled.resolved (h : b.Journalled) (hd : d ∈ b.doubts) : (b.resolved d f).Journalled := by
  have hperm := held_resolved (f := f) h hd
  have hlen := hperm.length_eq
  rw [List.length_cons, Books.length_held, Books.length_held] at hlen
  have hreserved := h.reserved
  exact
    { consecutive := h.consecutive
      distinct := (List.nodup_cons.mp (hperm.nodup_iff.mp h.distinct)).2
      range := fun n hn => h.range n (hperm.mem_iff.mpr (List.mem_cons_of_mem _ hn))
      counter := h.counter
      reserved := by
        show _ ≤ b.totals.free
        omega }

theorem Books.Journalled.moved (h : b.Journalled) (hd : d ∈ b.sales) : (b.moved d f).Journalled := by
  have hperm := held_moved (f := f) h hd
  have hlen := hperm.length_eq
  rw [Books.length_held, Books.length_held] at hlen
  have hreserved := h.reserved
  exact
    { consecutive := h.consecutive
      distinct := hperm.nodup_iff.mp h.distinct
      range := fun n hn => h.range n (hperm.mem_iff.mpr hn)
      counter := h.counter
      reserved := by
        show _ ≤ b.totals.free
        omega }

theorem Books.Journalled.opened (h : b.Journalled) {sales : List SaleData} (hsales : sales.Perm (d :: b.sales))
    (hnumber : (1 ≤ d.sale ∧ d.sale ≤ 65535) ∧ d.sale ∉ b.held)
    (hroom : b.sales.length + b.doubts.length < b.totals.free) : (b.opened d sales f).Journalled := by
  have hperm : (b.opened d sales f).held.Perm (d.sale :: b.held) :=
    (hsales.append_right b.doubts).map SaleData.sale
  obtain ⟨hrange, hfree⟩ := hnumber
  have hlen := hsales.length_eq
  rw [List.length_cons] at hlen
  exact
    { consecutive := h.consecutive
      distinct := hperm.nodup_iff.mpr (List.nodup_cons.mpr ⟨hfree, h.distinct⟩)
      range := fun n hn => by
        rcases List.mem_cons.mp (hperm.mem_iff.mp hn) with rfl | hmem
        · exact hrange
        · exact h.range n hmem
      counter := nextSaleNumber_range _
      reserved := by
        show sales.length + b.doubts.length ≤ b.totals.free
        omega }

/-- A record joins the newest end with the next number (R178). -/
theorem consecutive_append {j : JournalTotals} (h : j.Consecutive) (hf : 0 < j.free) (now : Time)
    (r : RecordBody) : (j.append now r).Consecutive := by
  have hpos := h.next_pos
  have hle := h.next_le
  have hsize := h.size
  have hgiven := h.given
  have hnumbers := h.numbers
  simp only [Config.journalSize, Config.lastJournalNumber] at hle hsize
  have hexhausted : j.exhausted = false := by
    cases he : j.exhausted with
    | false => rfl
    | true => simp [JournalTotals.free, he] at hf
  have hroom : j.journal.length < 2048 := by
    simp only [JournalTotals.free, hexhausted, Config.journalSize] at hf
    omega
  have hlast : j.last = j.next - 1 := by simp [JournalTotals.last, hexhausted]
  have hlast' : (j.append now r).last = j.next := by
    by_cases hn : j.next < 4294967295
    · simp [JournalTotals.last, JournalTotals.append, hexhausted, hn]
    · simp [JournalTotals.last, JournalTotals.append, hexhausted, hn, Nat.not_lt.mp hn]
  have hlen : (j.append now r).journal.length = j.journal.length + 1 := by simp
  constructor
  case next_pos =>
    simp only [JournalTotals.append]
    split <;> omega
  case next_le =>
    simp only [JournalTotals.append]
    split <;> omega
  case exhausted =>
    intro he
    have hge : 4294967295 ≤ j.next := by simpa [JournalTotals.append, hexhausted] using he
    simp only [JournalTotals.append, Config.lastJournalNumber]
    split <;> omega
  case size =>
    rw [hlen]
    exact hroom
  case given =>
    rw [hlen, hlast']
    omega
  case numbers =>
    rw [hlen, hlast', append_journal, List.map_append, hnumbers, hlast, List.range'_concat]
    have hstart : j.next - 1 + 1 - j.journal.length = j.next + 1 - (j.journal.length + 1) := by omega
    rw [hstart]
    simp only [List.map_cons, List.map_nil, List.append_cancel_left_eq, List.cons.injEq, and_true]
    rw [hlast] at hgiven
    omega

theorem Books.Journalled.appended (h : b.Journalled)
    (hroom : b.sales.length + b.doubts.length < b.totals.free) (now : Time) (r : RecordBody) :
    (b.appended now r).Journalled := by
  have hfree := free_append h.consecutive (by omega) now r
  exact
    { consecutive := consecutive_book.mpr (consecutive_append h.consecutive (by omega) now r)
      distinct := h.distinct
      range := h.range
      counter := h.counter
      reserved := by
        show b.sales.length + b.doubts.length ≤ (b.totals.append now r).free
        omega }

/-- The numbers above `n` of a run of numbers are its end. -/
theorem filter_range' (a k n : Nat) : (List.range' a k).filter (fun x => decide (n < x)) =
    List.range' (max a (n + 1)) (a + k - max a (n + 1)) := by
  induction k generalizing a with
  | zero => simp
  | succ k ih =>
    rw [List.range'_succ]
    by_cases h : n < a
    · rw [List.filter_cons_of_pos (by simpa using h), ih]
      have h1 : max a (n + 1) = a := by omega
      have h2 : max (a + 1) (n + 1) = a + 1 := by omega
      rw [h1, h2, show a + (k + 1) - a = (a + 1 + k - (a + 1)) + 1 by omega, List.range'_succ]
    · rw [List.filter_cons_of_neg (by simpa using h), ih]
      congr 1 <;> omega

theorem consecutive_released {j : JournalTotals} (h : j.Consecutive) (n : Nat) :
    JournalTotals.Consecutive { j with journal := j.journal.filter fun r => decide (n < r.number) } := by
  have hgiven := h.given
  have hnumbers : (j.journal.filter fun r => decide (n < r.number)).map (·.number) =
      (j.journal.map (·.number)).filter fun x => decide (n < x) := by
    rw [List.filter_map]
    rfl
  rw [h.numbers, filter_range'] at hnumbers
  have hlen := congrArg List.length hnumbers
  rw [List.length_map, List.length_range'] at hlen
  have hless : (j.journal.filter fun r => decide (n < r.number)).length ≤ j.journal.length :=
    List.length_filter_le ..
  constructor
  case next_pos => exact h.next_pos
  case next_le => exact h.next_le
  case exhausted => exact h.exhausted
  case size => exact hless.trans h.size
  case given => exact hless.trans h.given
  case numbers =>
    refine hnumbers.trans ?_
    show _ = List.range' (j.last + 1 - (j.journal.filter fun r => decide (n < r.number)).length)
      (j.journal.filter fun r => decide (n < r.number)).length
    rw [hlen]
    generalize hk : j.last + 1 - j.journal.length + j.journal.length -
      max (j.last + 1 - j.journal.length) (n + 1) = k
    cases k with
    | zero => rfl
    | succ k => congr 1; omega

theorem Books.Journalled.released (h : b.Journalled) (n : Nat) : (b.released n).Journalled := by
  have hless : (b.totals.journal.filter fun r => decide (n < r.number)).length ≤ b.totals.journal.length :=
    List.length_filter_le ..
  have hreserved := h.reserved
  exact
    { consecutive := consecutive_released h.consecutive n
      distinct := h.distinct
      range := h.range
      counter := h.counter
      reserved := by
        exact hreserved.trans (min_le_min_right _ (Nat.sub_le_sub_left hless _)) }

end Journal

theorem BookRun.journalled {b₀ b : Books} (h : BookRun b₀ b) (hj : b₀.Journalled) : b.Journalled := by
  induction h with
  | start => exact hj
  | cold => exact journalLaw_iff.mp journalLaw_reset
  | ended _ hd _ ih => exact ih.ended hd
  | resolved _ hd _ ih => exact ih.resolved hd
  | moved _ hd _ _ ih => exact ih.moved hd
  | noted _ _ ih => exact ⟨ih.consecutive, ih.distinct, ih.range, ih.counter, ih.reserved⟩
  | created _ _ _ ih => exact ⟨ih.consecutive, ih.distinct, ih.range, ih.counter, ih.reserved⟩
  | opened _ hsales hnumber hroom _ _ _ _ _ ih => exact ih.opened hsales (hnumber hj) hroom
  | appended _ hroom ih => exact ih.appended (hroom hj) _ _
  | released _ ih => exact ih.released _

end Sys2Proof.Machine

/-! PROOFS. That each move on the books keeps the law of the cards and that of the context flags. -/

namespace Sys2Proof.Machine

open Sys2Proof

/-! ### A change of one card's record -/

section Update

variable {m : List CardRecord} {card k : Nat} {f : CardRecord → CardRecord} {P Q : CardRecord → Prop}

theorem mem_updateCard {x : CardRecord} : x ∈ updateCard m card f ↔
    (∃ r ∈ m, r.card = card ∧ f r = x) ∨ x ∈ m ∧ x.card ≠ card := by
  simp only [updateCard, List.mem_map]
  constructor
  · rintro ⟨r, hr, rfl⟩
    split
    next h => exact .inl ⟨r, hr, h, rfl⟩
    next h => exact .inr ⟨hr, h⟩
  · rintro (⟨r, hr, h, rfl⟩ | ⟨hx, h⟩)
    · exact ⟨r, hr, if_pos h⟩
    · exact ⟨x, hx, if_neg h⟩

/-- A card's record stands after the change, with what the change makes of it. -/
theorem exists_updateCard (hf : ∀ r, (f r).card = r.card) (h : ∃ r ∈ m, r.card = k ∧ P r)
    (hset : k = card → ∀ r, P r → Q (f r)) (hkept : k ≠ card → ∀ r, P r → Q r) :
    ∃ r ∈ updateCard m card f, r.card = k ∧ Q r := by
  obtain ⟨r, hr, rfl, hP⟩ := h
  by_cases hk : r.card = card
  · exact ⟨f r, mem_updateCard.mpr (.inl ⟨r, hr, hk, rfl⟩), hf r, hset hk r hP⟩
  · exact ⟨r, mem_updateCard.mpr (.inr ⟨hr, hk⟩), rfl, hkept hk r hP⟩

theorem insertCard_perm (r : CardRecord) (m : List CardRecord) : (insertCard r m).Perm (r :: m) := by
  induction m with
  | nil => exact .refl _
  | cons x xs ih =>
    unfold insertCard
    split
    · exact .refl _
    · exact (ih.cons x).trans (.swap r x xs)

theorem makeRoom_sublist : (makeRoom m).Sublist m := by
  unfold makeRoom
  split
  · exact .refl _
  · split
    · exact List.filter_sublist
    · exact .refl _

end Update

/-- The sixteen stations. -/
def everyStation : List StationId := [Lane.a, Lane.b].flatMap fun l => (List.finRange 8).map (StationId.mk l)

theorem mem_everyStation (st : StationId) : st ∈ everyStation := by
  rcases st with ⟨_ | _, a⟩ <;> simp [everyStation]

theorem length_of_stations {l : List StationId} (h : l.Nodup) : l.length ≤ 16 :=
  (h.subperm fun st _ => mem_everyStation st).length_le

/-! ### The cards' law (04 R64, 05 R87, 07 R116 to R119) -/

section Cards

variable {b : Books} {d x : SaleData} {f : CardRecord → CardRecord}

theorem Books.Journalled.sale_inj (h : b.Journalled) (hd : d ∈ b.sales ++ b.doubts)
    (hx : x ∈ b.sales ++ b.doubts) (heq : x.sale = d.sale) : x = d :=
  List.inj_on_of_nodup_map h.distinct hx hd heq

theorem Books.Carded.card_inj (h : b.Carded) (hd : d ∈ b.sales ++ b.doubts) (hx : x ∈ b.sales ++ b.doubts)
    (heq : x.card = d.card) : x = d :=
  List.inj_on_of_nodup_map h.cards hx hd heq

theorem Books.Carded.station_inj (h : b.Carded) (hd : d ∈ b.sales) (hx : x ∈ b.sales)
    (heq : x.station = d.station) : x = d :=
  List.inj_on_of_nodup_map h.stations hx hd heq

theorem Books.Carded.length_sales (h : b.Carded) : b.sales.length ≤ 16 := by
  simpa using length_of_stations h.stations

/-- Of the sales, those but `d` are those of another card. -/
theorem mem_filter_sale_iff (hj : b.Journalled) (hc : b.Carded) (hd : d ∈ b.sales) :
    x ∈ b.sales.filter (fun y => y.sale ≠ d.sale) ↔ x ∈ b.sales ∧ x.card ≠ d.card := by
  simp only [List.mem_filter, decide_eq_true_eq]
  refine and_congr_right fun hx => not_congr ⟨fun h => ?_, fun h => ?_⟩
  · rw [hj.sale_inj (List.mem_append_left _ hd) (List.mem_append_left _ hx) h]
  · rw [hc.card_inj (List.mem_append_left _ hd) (List.mem_append_left _ hx) h]

theorem mem_filter_doubt_iff (hj : b.Journalled) (hc : b.Carded) (hd : d ∈ b.doubts) :
    x ∈ b.doubts.filter (fun y => y.sale ≠ d.sale) ↔ x ∈ b.doubts ∧ x.card ≠ d.card := by
  simp only [List.mem_filter, decide_eq_true_eq]
  refine and_congr_right fun hx => not_congr ⟨fun h => ?_, fun h => ?_⟩
  · rw [hj.sale_inj (List.mem_append_right _ hd) (List.mem_append_right _ hx) h]
  · rw [hc.card_inj (List.mem_append_right _ hd) (List.mem_append_right _ hx) h]

/-- The in-use flags once the context of the card is gone. -/
theorem inUse_without (hj : b.Journalled) (hc : b.Carded) (hd : d ∈ b.sales) {v : Bool → Bool}
    (hf : Flags f (fun _ => none) v) :
    (∀ x ∈ b.sales.filter (fun y => y.sale ≠ d.sale),
      ∃ r ∈ updateCard b.memory d.card f, r.card = x.card ∧ r.inUse = some x.station) ∧
    ∀ r ∈ updateCard b.memory d.card f, ∀ st, r.inUse = some st →
      ∃ x ∈ b.sales.filter (fun y => y.sale ≠ d.sale), x.card = r.card ∧ x.station = st := by
  refine ⟨fun x hx => ?_, fun r hr st hst => ?_⟩
  · obtain ⟨hxs, hcard⟩ := (mem_filter_sale_iff hj hc hd).mp hx
    exact exists_updateCard hf.card (hc.inUse x hxs) (fun h => absurd h hcard) fun _ _ h => h
  · rcases mem_updateCard.mp hr with ⟨r, -, -, rfl⟩ | ⟨hmem, hcard⟩
    · rw [hf.inUse] at hst
      contradiction
    · obtain ⟨x, hx, hxr, hxst⟩ := hc.inUseBack r hmem st hst
      exact ⟨x, (mem_filter_sale_iff hj hc hd).mpr ⟨hx, hxr ▸ hcard⟩, hxr, hxst⟩

/-- The doubt flags where the change keeps them. -/
theorem doubt_kept (hc : b.Carded) {card : Nat} {u : Option StationId → Option StationId} (hf : Flags f u id) :
    (∀ x ∈ b.doubts, ∃ r ∈ updateCard b.memory card f, r.card = x.card ∧ r.doubt = true) ∧
    ∀ r ∈ updateCard b.memory card f, r.doubt = true → ∃ x ∈ b.doubts, x.card = r.card := by
  refine ⟨fun x hx => exists_updateCard hf.card (hc.doubted x hx) (fun _ r h => (hf.doubt r).trans h)
    fun _ _ h => h, fun r hr hdoubt => ?_⟩
  rcases mem_updateCard.mp hr with ⟨r, hmem, -, rfl⟩ | ⟨hmem, -⟩
  · rw [hf.card]
    exact hc.doubtedBack r hmem ((hf.doubt r).symm.trans hdoubt)
  · exact hc.doubtedBack r hmem hdoubt

/-- The in-use flags where the change keeps them. -/
theorem inUse_kept (hc : b.Carded) {card : Nat} {v : Bool → Bool} (hf : Flags f id v) :
    (∀ x ∈ b.sales, ∃ r ∈ updateCard b.memory card f, r.card = x.card ∧ r.inUse = some x.station) ∧
    ∀ r ∈ updateCard b.memory card f, ∀ st, r.inUse = some st →
      ∃ x ∈ b.sales, x.card = r.card ∧ x.station = st := by
  refine ⟨fun x hx => exists_updateCard hf.card (hc.inUse x hx) (fun _ r h => (hf.inUse r).trans h)
    fun _ _ h => h, fun r hr st hst => ?_⟩
  rcases mem_updateCard.mp hr with ⟨r, hmem, -, rfl⟩ | ⟨hmem, -⟩
  · rw [hf.card]
    exact hc.inUseBack r hmem st ((hf.inUse r).symm.trans hst)
  · exact hc.inUseBack r hmem st hst

theorem records_updateCard (hc : b.Carded) {card : Nat} (hf : ∀ r, (f r).card = r.card) :
    ((updateCard b.memory card f).map (·.card)).Nodup ∧ (updateCard b.memory card f).length ≤ 4096 :=
  ⟨(cards_updateCard hf).symm ▸ hc.records, by simpa [updateCard] using hc.size⟩

theorem Books.Carded.ended (hc : b.Carded) (hj : b.Journalled) (hd : d ∈ b.sales)
    (hf : Flags f (fun _ => none) id) : (b.ended d f).Carded where
  stations := (List.filter_sublist.map _).nodup hc.stations
  few := hc.few
  cards := ((List.filter_sublist.append_right _).map _).nodup hc.cards
  records := (records_updateCard hc hf.card).1
  size := (records_updateCard hc hf.card).2
  inUse := (inUse_without hj hc hd hf).1
  inUseBack := (inUse_without hj hc hd hf).2
  doubted := (doubt_kept hc hf).1
  doubtedBack := (doubt_kept hc hf).2

theorem Books.Carded.resolved (hc : b.Carded) (hj : b.Journalled) (hd : d ∈ b.doubts)
    (hf : Flags f id fun _ => false) : (b.resolved d f).Carded where
  stations := hc.stations
  few := (List.length_filter_le ..).trans hc.few
  cards := ((List.filter_sublist.append_left _).map _).nodup hc.cards
  records := (records_updateCard hc hf.card).1
  size := (records_updateCard hc hf.card).2
  inUse := (inUse_kept hc hf).1
  inUseBack := (inUse_kept hc hf).2
  doubted := fun x hx => by
    obtain ⟨hxs, hcard⟩ := (mem_filter_doubt_iff hj hc hd).mp hx
    exact exists_updateCard hf.card (hc.doubted x hxs) (fun h => absurd h hcard) fun _ _ h => h
  doubtedBack := fun r hr hdoubt => by
    rcases mem_updateCard.mp hr with ⟨r, -, -, rfl⟩ | ⟨hmem, hcard⟩
    · rw [hf.doubt] at hdoubt
      contradiction
    · obtain ⟨x, hx, hxr⟩ := hc.doubtedBack r hmem hdoubt
      exact ⟨x, (mem_filter_doubt_iff hj hc hd).mpr ⟨hx, hxr ▸ hcard⟩, hxr⟩

theorem Books.Carded.moved (hc : b.Carded) (hj : b.Journalled) (hd : d ∈ b.sales)
    (hf : Flags f (fun _ => none) fun _ => true) (hroom : b.doubts.length < 64) : (b.moved d f).Carded where
  stations := (List.filter_sublist.map _).nodup hc.stations
  few := by
    simp only [Books.moved, List.length_append, List.length_singleton]
    omega
  cards := by
    have hn : (b.sales.map (·.sale)).Nodup := by
      have := hj.distinct
      rw [Books.held, List.map_append] at this
      exact this.of_append_left
    have hperm : (b.sales ++ b.doubts).Perm ((b.moved d f).sales ++ (b.moved d f).doubts) := by
      refine ((perm_cons_filter_ne hd hn).append_right b.doubts).trans ?_
      rw [Books.moved, ← List.append_assoc]
      exact (List.perm_append_singleton ..).symm
    exact (hperm.map _).nodup_iff.mp hc.cards
  records := (records_updateCard hc hf.card).1
  size := (records_updateCard hc hf.card).2
  inUse := (inUse_without hj hc hd hf).1
  inUseBack := (inUse_without hj hc hd hf).2
  doubted := fun x hx => by
    rcases List.mem_append.mp hx with hx | hx
    · exact exists_updateCard hf.card (hc.doubted x hx) (fun _ r _ => hf.doubt r) fun _ _ h => h
    · obtain rfl := List.mem_singleton.mp hx
      exact exists_updateCard hf.card (hc.inUse x hd) (fun _ r _ => hf.doubt r) fun h => absurd rfl h
  doubtedBack := fun r hr hdoubt => by
    rcases mem_updateCard.mp hr with ⟨r, -, hcard, rfl⟩ | ⟨hmem, -⟩
    · exact ⟨d, List.mem_append_right _ (List.mem_singleton.mpr rfl), hcard.symm.trans (hf.card r).symm⟩
    · obtain ⟨x, hx, hxr⟩ := hc.doubtedBack r hmem hdoubt
      exact ⟨x, List.mem_append_left _ hx, hxr⟩

theorem Books.Carded.noted (hc : b.Carded) {card : Nat} (hf : Flags f id id) : (b.noted card f).Carded where
  stations := hc.stations
  few := hc.few
  cards := hc.cards
  records := (records_updateCard hc hf.card).1
  size := (records_updateCard hc hf.card).2
  inUse := (inUse_kept hc hf).1
  inUseBack := (inUse_kept hc hf).2
  doubted := (doubt_kept hc hf).1
  doubtedBack := (doubt_kept hc hf).2

/-- A full map has a record with both flags clear: the others are at most 80 (R119). -/
theorem Books.Carded.victim_of_full (hc : b.Carded) (h : 4096 ≤ b.memory.length) :
    ∃ v, victim b.memory = some v := by
  by_contra hnone
  have hall := victim_none (Option.eq_none_iff_forall_ne_some.mpr fun v hv => hnone ⟨v, hv⟩)
  have hsub : b.memory.map (·.card) ⊆ (b.sales ++ b.doubts).map (·.card) := by
    intro k hk
    obtain ⟨r, hr, rfl⟩ := List.mem_map.mp hk
    rcases not_and_or.mp (hall r hr) with hu | hd
    · obtain ⟨st, hst⟩ := Option.ne_none_iff_exists'.mp hu
      obtain ⟨x, hx, hxr, -⟩ := hc.inUseBack r hr st hst
      exact List.mem_map.mpr ⟨x, List.mem_append_left _ hx, hxr⟩
    · obtain ⟨x, hx, hxr⟩ := hc.doubtedBack r hr (by simpa using hd)
      exact List.mem_map.mpr ⟨x, List.mem_append_right _ hx, hxr⟩
  have hlen := (hc.records.subperm hsub).length_le
  have hsales := hc.length_sales
  have hdoubts := hc.few
  simp only [List.length_map, List.length_append] at hlen
  omega

/-- No record with a flag set leaves (R119). -/
theorem Books.Carded.mem_makeRoom (hc : b.Carded) {r : CardRecord} (hr : r ∈ b.memory) (h : ¬ r.clear) :
    r ∈ makeRoom b.memory := by
  unfold makeRoom
  split
  · exact hr
  · split
    next v hv =>
      obtain ⟨hmem, hclear⟩ := victim_mem hv
      refine List.mem_filter.mpr ⟨hr, decide_eq_true fun heq => h ?_⟩
      rwa [List.inj_on_of_nodup_map hc.records hr hmem heq]
    · exact hr

theorem Books.Carded.length_makeRoom (hc : b.Carded) : (makeRoom b.memory).length < 4096 := by
  by_cases h : b.memory.length < 4096
  · rwa [makeRoom_room h]
  · have hfull := Nat.not_lt.mp h
    obtain ⟨v, hv⟩ := hc.victim_of_full hfull
    rw [makeRoom_full hfull hv]
    refine Nat.lt_of_lt_of_le ?_ hc.size
    exact List.length_filter_lt_length_iff_exists.mpr ⟨v, (victim_mem hv).1, by simp⟩

theorem Books.Carded.created (hc : b.Carded) {r : CardRecord} (hr : r.clear)
    (hnew : findCard b.memory r.card = none) : (b.created r).Carded where
  stations := hc.stations
  few := hc.few
  cards := hc.cards
  records := by
    refine ((insertCard_perm r _).map _).nodup_iff.mpr (List.nodup_cons.mpr ⟨fun hmem => ?_, ?_⟩)
    · obtain ⟨x, hx, hxr⟩ := List.mem_map.mp hmem
      exact findCard_none_iff.mp hnew x (makeRoom_subset x hx) hxr
    · exact (makeRoom_sublist.map _).nodup hc.records
  size := by
    show (insertCard r (makeRoom b.memory)).length ≤ 4096
    rw [length_insertCard]
    exact hc.length_makeRoom
  inUse := fun x hx => by
    obtain ⟨y, hy, hcard, huse⟩ := hc.inUse x hx
    have hkept := hc.mem_makeRoom hy fun h => by simp [h.1] at huse
    exact ⟨y, mem_insertCard.mpr (.inr hkept), hcard, huse⟩
  inUseBack := fun y hy st hst => by
    rcases mem_insertCard.mp hy with rfl | hy
    · rw [hr.1] at hst
      contradiction
    · exact hc.inUseBack y (makeRoom_subset y hy) st hst
  doubted := fun x hx => by
    obtain ⟨y, hy, hcard, hdoubt⟩ := hc.doubted x hx
    have hkept := hc.mem_makeRoom hy fun h => by simp [h.2] at hdoubt
    exact ⟨y, mem_insertCard.mpr (.inr hkept), hcard, hdoubt⟩
  doubtedBack := fun y hy hdoubt => by
    rcases mem_insertCard.mp hy with rfl | hy
    · rw [hr.2] at hdoubt
      contradiction
    · exact hc.doubtedBack y (makeRoom_subset y hy) hdoubt

theorem Books.Carded.opened (hc : b.Carded) {sales : List SaleData} (hsales : sales.Perm (d :: b.sales))
    (hstation : ∀ x ∈ b.sales, x.station ≠ d.station) (hcard : ∀ x ∈ b.sales, x.card ≠ d.card)
    (hdoubt : ∀ x ∈ b.doubts, x.card ≠ d.card) (hrecord : ∃ r ∈ b.memory, r.card = d.card)
    (hf : Flags f (fun _ => some d.station) id) : (b.opened d sales f).Carded where
  stations := by
    refine (hsales.map _).nodup_iff.mpr (List.nodup_cons.mpr ⟨fun hmem => ?_, hc.stations⟩)
    obtain ⟨x, hx, heq⟩ := List.mem_map.mp hmem
    exact hstation x hx heq
  few := hc.few
  cards := by
    refine ((hsales.append_right b.doubts).map _).nodup_iff.mpr (List.nodup_cons.mpr ⟨fun hmem => ?_, hc.cards⟩)
    obtain ⟨x, hx, heq⟩ := List.mem_map.mp hmem
    rcases List.mem_append.mp hx with hx | hx
    · exact hcard x hx heq
    · exact hdoubt x hx heq
  records := (records_updateCard hc hf.card).1
  size := (records_updateCard hc hf.card).2
  inUse := fun x hx => by
    rcases List.mem_cons.mp (hsales.mem_iff.mp hx) with rfl | hx
    · obtain ⟨r, hr, hrc⟩ := hrecord
      exact exists_updateCard (P := fun _ => True) hf.card ⟨r, hr, hrc, trivial⟩ (fun _ r _ => hf.inUse r)
        fun h => absurd rfl h
    · exact exists_updateCard hf.card (hc.inUse x hx) (fun h => absurd h (hcard x hx)) fun _ _ h => h
  inUseBack := fun r hr st hst => by
    rcases mem_updateCard.mp hr with ⟨r, -, hrc, rfl⟩ | ⟨hmem, -⟩
    · rw [hf.inUse] at hst
      exact ⟨d, hsales.mem_iff.mpr List.mem_cons_self, hrc.symm.trans (hf.card r).symm, Option.some.inj hst⟩
    · obtain ⟨x, hx, hxr⟩ := hc.inUseBack r hmem st hst
      exact ⟨x, hsales.mem_iff.mpr (List.mem_cons_of_mem _ hx), hxr⟩
  doubted := (doubt_kept hc hf).1
  doubtedBack := (doubt_kept hc hf).2

end Cards

theorem BookRun.carded {b₀ b : Books} (h : BookRun b₀ b) (hj : b₀.Journalled) (hc : b₀.Carded) : b.Carded := by
  induction h with
  | start => exact hc
  | cold => exact cardsHeld_iff.mp cardsHeld_initial
  | ended h hd hf ih => exact ih.ended (h.journalled hj) hd hf
  | resolved h hd hf ih => exact ih.resolved (h.journalled hj) hd hf
  | moved h hd hf hroom ih => exact ih.moved (h.journalled hj) hd hf (hroom hj hc)
  | noted _ hf ih => exact ih.noted hf
  | created _ hr hnew ih => exact ih.created hr hnew
  | opened _ hsales _ _ hstation hcard hdoubt hrecord hf ih =>
    exact ih.opened hsales hstation hcard (hdoubt hj hc) hrecord hf
  | appended _ _ ih =>
    exact ⟨ih.stations, ih.few, ih.cards, ih.records, ih.size, ih.inUse, ih.inUseBack, ih.doubted,
      ih.doubtedBack⟩
  | released _ ih =>
    exact ⟨ih.stations, ih.few, ih.cards, ih.records, ih.size, ih.inUse, ih.inUseBack, ih.doubted,
      ih.doubtedBack⟩

/-! ### The law of the context flags (09 R155) -/

section FlagLaw

variable {b : Books} {d : SaleData} {f : CardRecord → CardRecord}

/-- A station's flag is cleared with its context. -/
theorem flagged_without (hj : b.Journalled) (hc : b.Carded) (h : b.Flagged) (hd : d ∈ b.sales)
    (st : StationId) (n : Nat) : (if st = d.station then none else b.flags st) = some n ↔
      ∃ x ∈ b.sales.filter (fun y => y.sale ≠ d.sale), x.station = st ∧ x.sale = n := by
  simp only [List.mem_filter, decide_eq_true_eq]
  split
  next hst =>
    subst hst
    refine ⟨nofun, fun ⟨x, ⟨hx, hne⟩, heq, _⟩ => absurd ?_ hne⟩
    rw [hc.station_inj hd hx heq]
  next hst =>
    rw [h st n]
    refine exists_congr fun x => ⟨fun ⟨hx, heq, hn⟩ => ⟨⟨hx, fun hsale => hst ?_⟩, heq, hn⟩,
      fun ⟨⟨hx, _⟩, heq⟩ => ⟨hx, heq⟩⟩
    rw [← heq, hj.sale_inj (List.mem_append_left _ hd) (List.mem_append_left _ hx) hsale]

theorem Books.Flagged.opened (h : b.Flagged) {sales : List SaleData} (hsales : sales.Perm (d :: b.sales))
    (hstation : ∀ x ∈ b.sales, x.station ≠ d.station) : (b.opened d sales f).Flagged := by
  intro st n
  show (if st = d.station then some d.sale else b.flags st) = some n ↔
    ∃ x ∈ sales, x.station = st ∧ x.sale = n
  simp only [hsales.mem_iff, List.mem_cons, exists_eq_or_imp]
  split
  next hst =>
    subst hst
    refine ⟨fun hn => .inl ⟨rfl, Option.some.inj hn⟩, ?_⟩
    rintro (⟨-, hn⟩ | ⟨x, hx, heq, -⟩)
    · exact congrArg some hn
    · exact absurd heq (hstation x hx)
  next hst =>
    rw [h st n]
    exact ⟨.inr, fun hor => hor.resolve_left fun ⟨heq, _⟩ => hst heq.symm⟩

end FlagLaw

theorem BookRun.flagged {b₀ b : Books} (h : BookRun b₀ b) (hj : b₀.Journalled) (hc : b₀.Carded)
    (hf : b₀.Flagged) : b.Flagged := by
  induction h with
  | start => exact hf
  | cold => exact flagsAgree_iff.mp flagsAgree_reset
  | ended h hd _ ih => exact flagged_without (h.journalled hj) (h.carded hj hc) ih hd
  | moved h hd _ _ ih => exact flagged_without (h.journalled hj) (h.carded hj hc) ih hd
  | opened _ hsales _ _ hstation _ _ _ _ ih => exact ih.opened hsales hstation
  | resolved _ _ _ ih | noted _ _ ih | created _ _ _ ih | appended _ _ ih | released _ ih => exact ih

end Sys2Proof.Machine

/-! PROOFS. Every command as moves on the books, and with them the laws that every step keeps: of the journal (O7),
of the cards (O9) and of the context flags (O10). -/

namespace Sys2Proof.Machine

open Sys2Proof

/-! ### What leaves the books as they are -/

theorem books_eq {s : State} {b : Books} (hsales : s.sale.contexts.map (·.data) = b.sales)
    (hdoubts : s.sale.doubts.map (·.data) = b.doubts) (hmemory : s.sale.memory = b.memory)
    (hcounter : s.sale.counter = b.counter) (htotals : s.totals.book = b.totals)
    (hflags : ∀ st, (s.station st).contextFlag = b.flags st) : s.books = b := by
  obtain ⟨sales, doubts, memory, counter, totals, flags⟩ := b
  simp only [State.books, Books.mk.injEq]
  exact ⟨hsales, hdoubts, hmemory, hcounter, htotals, funext hflags⟩

section Same

variable (s : State)

theorem books_of_flags {t : State} (hsale : t.sale = s.sale) (htotals : t.totals = s.totals)
    (hflags : ∀ st, (t.station st).contextFlag = (s.station st).contextFlag) : t.books = s.books :=
  books_eq (by rw [hsale]; rfl) (by rw [hsale]; rfl) (by rw [hsale]; rfl) (by rw [hsale]; rfl)
    (by rw [htotals]; rfl) hflags

theorem setStation_books {st : StationId} {r : StationRecord} (h : r.contextFlag = (s.station st).contextFlag) :
    (s.setStation st r).books = s.books := by
  refine books_of_flags s (State.setStation_sale ..) (State.setStation_totals ..) fun su => ?_
  by_cases hsu : su = st
  · rw [hsu, station_setStation, h]
  · rw [station_setStation_other _ hsu]

theorem setLane_books {l : Lane} {x : LaneControl}
    (h : ∀ a, (x.stations.get a).contextFlag = ((s.lane l).stations.get a).contextFlag) :
    (s.setLane l x).books = s.books := by
  refine books_of_flags s (State.setLane_sale ..) (State.setLane_totals ..) fun st => ?_
  by_cases hl : st.lane = l
  · subst hl
    simpa [State.station] using h st.addr
  · simp [State.station, lane_setLane_other s hl]

theorem takeReply_flag (r : StationRecord) (n : Byte) (reply : StationReply) :
    (r.takeReply n reply).contextFlag = r.contextFlag := by
  unfold StationRecord.takeReply
  split
  · rfl
  · split_ifs <;> rfl

@[simp] theorem giveReply_books (st : StationId) (n : Byte) (r : StationReply) :
    (s.giveReply st n r).books = s.books := setStation_books s (takeReply_flag ..)

@[simp] theorem dequeued_books : s.dequeued.books = s.books := rfl

@[simp] theorem queueReport_books (r : Report) : (s.queueReport r).books = s.books := rfl

@[simp] theorem reply_books (h : Handed) (r : HostReply) : (s.reply h r).books = s.books := rfl

@[simp] theorem does_books {st : StationId} {d : Deed} (h : d.record.contextFlag = (s.station st).contextFlag) :
    (s.does st d).books = s.books := by
  refine books_eq rfl rfl rfl rfl (by simp [State.does, State.books]) fun su => ?_
  by_cases hsu : su = st
  · rw [hsu, does_station]
    exact h
  · exact congrArg _ (does_station_other s st d hsu)

end Same

/-! ### The ends of sales and the move to doubt as moves on the books -/

section Ends

variable {b₀ : Books} {s t : State} {c : Context} {e : DoubtEntry}

theorem map_filter_sale (l : List Context) (n : Nat) :
    (l.filter fun x => x.data.sale ≠ n).map (·.data) = (l.map (·.data)).filter fun x => x.sale ≠ n := by
  rw [List.filter_map]
  rfl

theorem map_filter_doubt (l : List DoubtEntry) (n : Nat) :
    (l.filter fun x => x.data.sale ≠ n).map (·.data) = (l.map (·.data)).filter fun x => x.sale ≠ n := by
  rw [List.filter_map]
  rfl

theorem freed_flag (r : StationRecord) : r.freed.contextFlag = none := by
  unfold StationRecord.freed
  split <;> rfl

theorem appendRecord_books (s : State) (r : RecordBody) :
    (s.appendRecord r).books = s.books.appended s.time r := by
  rw [appendRecord_eq]
  rfl

/-- A station whose context has ended has its flag clear, the others theirs. -/
theorem flags_without {st : StationId} {r : StationRecord} (hstation : t.station st = r.freed)
    (hothers : ∀ su, su ≠ st → t.station su = s.station su) (su : StationId) :
    (t.station su).contextFlag = if su = st then none else (s.station su).contextFlag := by
  split
  next h => rw [h, hstation, freed_flag]
  next h => rw [hothers su h]

theorem voidContext_books (s : State) (c : Context) :
    (s.voidContext c).books = s.books.ended c.data (CardRecord.setInUse none) := by
  have h := voidContext_isVoid s c
  obtain ⟨-, -, -, -, htotals, -⟩ := h.others
  obtain ⟨-, hcounter, -, hdoubts, -⟩ := h.engine
  exact books_eq (h.contexts ▸ map_filter_sale ..) (hdoubts ▸ rfl) h.memory hcounter (htotals ▸ rfl)
    (flags_without h.station h.stations)

theorem commit_books (s : State) (c : Context) : (s.commit c).books =
    (s.books.ended c.data (CardRecord.committed c.data s.hall.hallId s.totals.next s.time)).appended s.time
      (c.data.record .committed) := by
  have h := commit_isCommit s c
  obtain ⟨hdoubts, -, hcounter, -⟩ := h.engine
  exact books_eq (h.contexts ▸ map_filter_sale ..) (hdoubts ▸ rfl) h.memory hcounter (h.totals ▸ rfl)
    (flags_without h.station h.stations)

theorem inUse_cleared : Flags (CardRecord.setInUse none) (fun _ => none) id :=
  ⟨fun _ => rfl, fun _ => rfl, fun _ => rfl⟩

theorem committed_flags (d : SaleData) (hall : Option Nat) (j : Nat) (now : Time) :
    Flags (CardRecord.committed d hall j now) (fun _ => none) id :=
  ⟨fun _ => rfl, fun _ => rfl, fun _ => rfl⟩

theorem committedLate_flags (d : SaleData) (hall : Option Nat) (j : Nat) (now : Time) :
    Flags (CardRecord.committedLate d hall j now) id id := by
  have written (r : CardRecord) (x : CardRecord)
      (hx : x = if seqNewer d.expected r.seq then r.setWritten d hall else r) :
      x.card = r.card ∧ x.inUse = r.inUse ∧ x.doubt = r.doubt := by
    rw [hx]
    split <;> exact ⟨rfl, rfl, rfl⟩
  exact ⟨fun r => (written r _ rfl).1, fun r => (written r _ rfl).2.1, fun r => (written r _ rfl).2.2⟩

theorem meetRecord_flags (p : PurseSlot) (now : Time) : Flags (fun r => meetRecord r p now) id id := by
  have met (r : CardRecord) : (meetRecord r p now).card = r.card ∧ (meetRecord r p now).inUse = r.inUse ∧
      (meetRecord r p now).doubt = r.doubt := by
    unfold meetRecord
    split
    · exact ⟨rfl, rfl, rfl⟩
    · split <;> exact ⟨rfl, rfl, rfl⟩
  exact ⟨fun r => (met r).1, fun r => (met r).2.1, fun r => (met r).2.2⟩

theorem voidContext_run (h : BookRun b₀ s.books) (hc : c ∈ s.sale.contexts) :
    BookRun b₀ (s.voidContext c).books :=
  voidContext_books s c ▸ h.ended (List.mem_map_of_mem hc) inUse_cleared

/-- An end leaves one free record more than the sales in flight need (R179). -/
theorem room_of_end {b b' : Books} {n : Nat} (hj : b.Journalled) (hperm : b.held.Perm (n :: b'.held))
    (htotals : b'.totals = b.totals) : b'.sales.length + b'.doubts.length < b'.totals.free := by
  have hlen := hperm.length_eq
  have hreserved := hj.reserved
  rw [List.length_cons, Books.length_held, Books.length_held] at hlen
  rw [htotals]
  omega

theorem commit_run (h : BookRun b₀ s.books) (hc : c ∈ s.sale.contexts) : BookRun b₀ (s.commit c).books := by
  have hd : c.data ∈ s.books.sales := List.mem_map_of_mem hc
  rw [commit_books]
  exact (h.ended hd (committed_flags ..)).appended fun hj =>
    room_of_end (h.journalled hj) (held_ended (h.journalled hj) hd) rfl

/-- The end of a doubt entry (05 R92 to R95). -/
theorem endsDoubt_run (h : BookRun b₀ s.books) (he : e ∈ s.sale.doubts) {o : RecordOutcome} {way : DoubtWay}
    (hends : EndsDoubt s e o way t) : BookRun b₀ t.books := by
  have hd : e.data ∈ s.books.doubts := List.mem_map_of_mem he
  obtain ⟨hcontexts, -, hcounter, -⟩ := hends.engine
  obtain ⟨ha, hb, -⟩ := hends.others
  have ends {b : Books} (hb₀ : BookRun b₀ b) (hin : e.data ∈ b.doubts)
      (hbooks : t.books = (b.resolved e.data (CardRecord.setDoubt false)).appended s.time (e.data.record o)) :
      BookRun b₀ t.books := by
    rw [hbooks]
    exact (hb₀.resolved hin (f := CardRecord.setDoubt false) ⟨fun _ => rfl, fun _ => rfl, fun _ => rfl⟩).appended fun hj =>
      room_of_end (hb₀.journalled hj) (held_resolved (hb₀.journalled hj) hin) rfl
  have hflags (st : StationId) : (t.station st).contextFlag = (s.station st).contextFlag :=
    congrArg _ (station_of_lanes ha hb st)
  have hmemory := hends.memory
  by_cases hlate : o = .committedLate
  · rw [if_pos hlate] at hmemory
    refine ends (h.noted (card := e.data.card)
      (committedLate_flags e.data s.hall.hallId s.totals.next s.time)) hd ?_
    exact books_eq (hcontexts ▸ rfl) (hends.doubts ▸ map_filter_doubt ..) hmemory hcounter (hends.totals ▸ rfl)
      hflags
  · rw [if_neg hlate] at hmemory
    refine ends h hd ?_
    exact books_eq (hcontexts ▸ rfl) (hends.doubts ▸ map_filter_doubt ..) hmemory hcounter (hends.totals ▸ rfl)
      hflags

theorem pushOut_run (h : BookRun b₀ s.books) : BookRun b₀ s.pushOut.books := by
  cases hp : s.sale.pushed with
  | none => rwa [pushOut_of_room hp]
  | some e =>
    obtain ⟨hhead, hpush⟩ := pushOut_of_full hp
    rw [hpush]
    exact endsDoubt_run h (List.mem_of_mem_head? hhead) (endUnresolved_endsDoubt ..)

/-- The push-out makes room in a full list (R90). -/
theorem pushOut_room (hj : s.books.Journalled) (hc : s.books.Carded) : s.pushOut.sale.doubts.length < 64 := by
  have hfew : s.sale.doubts.length ≤ 64 := by simpa [State.books] using hc.few
  rw [(pushOut_pushedOut (journalLaw_iff.mpr hj).numbered).doubts]
  unfold SaleEngine.pushed
  split
  next hfull =>
    cases hd : s.sale.doubts with
    | nil => simp
    | cons e rest =>
      rw [hd, List.length_cons] at hfew
      simp only [List.head?_cons, Option.isSome_some, if_true, List.tail_cons]
      omega
  next hroom =>
    simp only [Option.isSome_none, reduceCtorEq, if_false]
    exact Nat.not_le.mp hroom

theorem moveToDoubt_books (s : State) (c : Context) (cause : DoubtCause) : (s.moveToDoubt c cause).books =
    s.pushOut.books.moved c.data fun r => (r.setDoubt true).setInUse none := by
  have hnote := contextEnded_notified
    (s := s.pushOut.withdraw c.data.station c.data.sale)
    (u := (s.pushOut.withdraw c.data.station c.data.sale).moving c cause) c.data.station rfl rfl
  rw [moveToDoubt_eq]
  refine books_eq ?_ ?_ ?_ ?_ ?_ ?_
  · simp only [State.contextEnded_sale, State.moving, State.withdraw_sale]
    exact map_filter_sale ..
  · simp [State.moving, Books.moved, State.books]
  · simp [State.moving, Books.moved, State.books]
  · simp [State.moving, Books.moved, State.books]
  · simp [State.moving, Books.moved, State.books]
  · refine flags_without hnote.station fun su hsu => (hnote.stations su hsu).trans ?_
    exact station_setStation_other _ hsu _

theorem moveToDoubt_run (cause : DoubtCause) (h : BookRun b₀ s.books) (hc : c ∈ s.sale.contexts) :
    BookRun b₀ (s.moveToDoubt c cause).books := by
  have hpush := pushOut_run h
  have hd : c.data ∈ s.pushOut.books.sales := by
    show c.data ∈ s.pushOut.sale.contexts.map (·.data)
    rw [pushOut_contexts]
    exact List.mem_map_of_mem hc
  rw [moveToDoubt_books]
  refine hpush.moved hd ⟨fun _ => rfl, fun _ => rfl, fun _ => rfl⟩ fun hj hcards => ?_
  simpa [State.books] using pushOut_room (h.journalled hj) (h.carded hj hcards)

end Ends

/-! ### The check order (04 R65) -/

section CheckOrder

variable {b₀ : Books} {s u : State} {st : StationId} {n : Byte} {now : Consulted} {m : MetCard}
  {image : CardImage} {p : Presented}

/-- Steps 1 to 7 left `u` for the station `st` and the card: neither has a sale in flight, and the card has its
record. -/
structure Ready (b₀ : Books) (u : State) (st : StationId) (card : Nat) : Prop where
  run : BookRun b₀ u.books
  station : ∀ x ∈ u.books.sales, x.station ≠ st
  cards : ∀ x ∈ u.books.sales, x.card ≠ card
  doubt : b₀.Journalled → b₀.Carded → ∀ x ∈ u.books.doubts, x.card ≠ card
  record : ∃ r ∈ u.books.memory, r.card = card

theorem contextOpened_flag (s : State) (st su : StationId) (k : Nat) :
    ((s.contextOpened st k).station su).contextFlag =
      if su = st then some k else (s.station su).contextFlag := by
  have hset : ((s.setStation st { s.station st with contextFlag := some k }).station su).contextFlag =
      if su = st then some k else (s.station su).contextFlag := by
    split
    next h => rw [h, station_setStation]
    next h => rw [station_setStation_other _ h]
  simp only [State.contextOpened]
  split <;> exact hset

theorem books_room : s.books.sales.length + s.books.doubts.length < s.books.totals.free ↔
    s.sale.contexts.length + s.sale.doubts.length < s.totals.free := by
  simp only [State.books, List.length_map]
  rfl

theorem giveReply_run {r : StationReply} (h : BookRun b₀ s.books) : BookRun b₀ (s.giveReply st n r).books :=
  (giveReply_books ..).symm ▸ h

theorem step10_books (s : State) (st : StationId) (n : Byte) (now : Consulted) (m : MetCard) (sale : Priced)
    (reversed : Option Nat) : (s.step10 st n now m sale reversed).books =
      s.books.opened (newContext st s.sale.assignedNumber s.hall.hallId now m sale reversed).data
        ((insertContext (newContext st s.sale.assignedNumber s.hall.hallId now m sale reversed)
          s.sale.contexts).map (·.data)) (CardRecord.setInUse (some st)) := by
  simp only [State.step10, giveReply_books]
  refine books_eq ?_ ?_ ?_ ?_ ?_ fun su => ?_
  · simp [State.addContext, Books.opened]
  · simp [Books.opened, State.books]
  · simp [State.mapCard, Books.opened, State.books, newContext]
  · simp [State.addContext, Books.opened]
  · simp [Books.opened, State.books]
  · exact contextOpened_flag ..

theorem step10_run (h : Ready b₀ s st m.card) (hroom : s.sale.contexts.length + s.sale.doubts.length < s.totals.free)
    (sale : Priced) (reversed : Option Nat) : BookRun b₀ (s.step10 st n now m sale reversed).books := by
  rw [step10_books]
  refine h.run.opened ((insertContext_perm _ _).map _) (fun hj => ?_) (books_room.mpr hroom)
    h.station h.cards h.doubt h.record ⟨fun _ => rfl, fun _ => rfl, fun _ => rfl⟩
  have hlaw := journalLaw_iff.mpr (h.run.journalled hj)
  have hfree : s.totals.free ≤ 2048 := (min_le_left _ _).trans (Nat.sub_le _ _)
  have hreserved : s.sale.contexts.length + s.sale.doubts.length ≤ s.totals.free := hlaw.reserved
  rw [held_books]
  exact assignedNumber_free hlaw.numbered.counter_pos hlaw.numbered.counter_le
    (by simp only [SaleEngine.heldNumbers, List.length_append, List.length_map]; omega)

theorem priceAndOpen_run (h : Ready b₀ s st m.card) : BookRun b₀ (s.priceAndOpen st n now m p).books := by
  by_cases hroom : s.sale.contexts.length + s.sale.doubts.length < s.totals.free
  · cases h9 : s.step9 now m p with
    | mk pricing reversed =>
      cases pricing with
      | answered r =>
        rw [priceAndOpen_answered hroom h9, giveReply_books]
        exact h.run
      | priced sale =>
        rw [priceAndOpen_priced hroom h9]
        exact step10_run h hroom sale reversed
  · rw [priceAndOpen_full (Nat.not_lt.mp hroom), giveReply_books]
    exact h.run

theorem met_run {card : Nat} {slot : PurseSlot} (h : BookRun b₀ s.books) : BookRun b₀ (s.met card slot).books := by
  cases hf : findCard s.sale.memory card with
  | none =>
    rw [met_created hf]
    exact h.created (r := newCard card slot s.time) ⟨rfl, rfl⟩ hf
  | some r =>
    rw [met_found hf]
    exact h.noted (card := card) (meetRecord_flags ..)

/-- A card has its record once step 6 has met it. -/
theorem met_record (s : State) (card : Nat) (slot : PurseSlot) :
    ∃ r ∈ (s.met card slot).sale.memory, r.card = card := by
  cases hf : findCard s.sale.memory card with
  | none =>
    rw [met_created hf]
    exact ⟨newCard card slot s.time, mem_insertCard.mpr (.inl rfl), rfl⟩
  | some r =>
    obtain ⟨hr, hcard⟩ := findCard_some hf
    rw [met_found hf]
    obtain ⟨x, hx, hxc, -⟩ := exists_updateCard (P := fun _ => True) (Q := fun _ => True)
      (f := fun r => meetRecord r slot s.time) (fun r => meetRecord_card ..) ⟨r, hr, hcard, trivial⟩
      (fun _ _ _ => trivial) (fun _ _ _ => trivial)
    exact ⟨x, hx, hxc⟩

/-- The end of the card's doubt entry leaves the card none (04 R64). -/
theorem ready_of_ends {card : Nat} {e : DoubtEntry} {o : RecordOutcome} {way : DoubtWay}
    (hrun : BookRun b₀ s.books) (hst : ∀ x ∈ s.books.sales, x.station ≠ st)
    (hcard : ∀ x ∈ s.books.sales, x.card ≠ card) (hrecord : ∃ r ∈ s.sale.memory, r.card = card)
    (he : s.sale.doubtOfCard card = some e) (hends : EndsDoubt s e o way u) : Ready b₀ u st card := by
  have hmem : e ∈ s.sale.doubts := List.mem_of_find?_eq_some he
  have hec : e.data.card = card := by simpa using List.find?_some he
  have hsales : u.books.sales = s.books.sales := congrArg (List.map Context.data) hends.engine.1
  have hdoubts : u.books.doubts = s.books.doubts.filter fun x => x.sale ≠ e.data.sale :=
    (congrArg (List.map DoubtEntry.data) hends.doubts).trans (map_filter_doubt ..)
  refine ⟨endsDoubt_run hrun hmem hends, hsales ▸ hst, hsales ▸ hcard, fun hj hc x hx => ?_, ?_⟩
  · rw [hdoubts, mem_filter_doubt_iff (hrun.journalled hj) (hrun.carded hj hc) (List.mem_map_of_mem hmem)] at hx
    exact hec ▸ hx.2
  · have kept {memory : List CardRecord} {f : CardRecord → CardRecord} (hf : ∀ r, (f r).card = r.card)
        (h : ∃ r ∈ memory, r.card = card) : ∃ r ∈ updateCard memory e.data.card f, r.card = card := by
      obtain ⟨r, hr, hrc⟩ := h
      obtain ⟨x, hx, hxc, -⟩ := exists_updateCard (P := fun _ => True) (Q := fun _ => True) hf
        ⟨r, hr, hrc, trivial⟩ (fun _ _ _ => trivial) (fun _ _ _ => trivial)
      exact ⟨x, hx, hxc⟩
    show ∃ r ∈ u.sale.memory, r.card = card
    rw [hends.memory]
    refine kept (fun _ => rfl) ?_
    split
    · exact kept (committedLate_flags ..).card hrecord
    · exact hrecord

theorem pursePath_run (h : BookRun b₀ s.books) (hst : ∀ x ∈ s.books.sales, x.station ≠ st)
    (hcard : ∀ x ∈ s.books.sales, x.card ≠ m.card) :
    BookRun b₀ (s.pursePath st n now m image p).books := by
  by_cases hpass : ∀ r, findCard s.sale.memory m.card = some r → staleReason r m.slot = none
  · have h6 := step6_passes (st := st) hpass
    have hrun := met_run (card := m.card) (slot := m.slot) h
    have hrecord := met_record s m.card m.slot
    have hsales : (s.met m.card m.slot).books.sales = s.books.sales := by rw [met_eq]; rfl
    rw [← hsales] at hst hcard
    cases hd : (s.met m.card m.slot).sale.doubtOfCard m.card with
    | none =>
      rw [pursePath_prices h6 (step7_none hd)]
      refine priceAndOpen_run ⟨hrun, hst, hcard, fun _ _ => ?_, hrecord⟩
      exact List.forall_mem_map.mpr fun e he => by simpa using List.find?_eq_none.mp hd e he
    | some e =>
      have prices {u : State} {o : RecordOutcome} {way : DoubtWay}
          (h7 : (s.met m.card m.slot).step7 st m.card image m.slot.sequence = (u, none) ∧
            EndsDoubt (s.met m.card m.slot) e o way u) : BookRun b₀ (s.pursePath st n now m image p).books := by
        rw [pursePath_prices h6 h7.1]
        exact priceAndOpen_run (ready_of_ends hrun hst hcard hrecord hd h7.2)
      cases hr : doubtResult (s.met m.card m.slot).hall.hallId e.data image m.slot.sequence with
      | stale =>
        rw [pursePath_stale7 h6 (step7_stale hd hr), giveReply_books, queueReport_books]
        exact hrun
      | happened => exact prices (step7_ends hd (.inl ⟨hr, rfl⟩)).choose_spec
      | notHappened => exact prices (step7_ends hd (.inr (.inl ⟨hr, rfl⟩))).choose_spec
      | unresolvable => exact prices (step7_ends hd (.inr (.inr ⟨hr, rfl⟩))).choose_spec
  · push Not at hpass
    obtain ⟨r, hf, hstale⟩ := hpass
    obtain ⟨why, hwhy⟩ := Option.ne_none_iff_exists'.mp hstale
    rw [pursePath_stale6 (step6_stale hf hwhy), giveReply_books, queueReport_books]
    exact h.noted (card := m.card) (meetRecord_flags ..)

theorem cashPath_run {card group : Nat} {kind : CardKind} (h : BookRun b₀ s.books) :
    BookRun b₀ (s.cashPath st n now card kind group p).books := by
  by_cases hroom : s.sale.contexts.length + s.sale.doubts.length < s.totals.free
  · simp only [State.cashPath, step8_room hroom]
    cases p with
    | reversal => exact giveReply_run h
    | basket lines =>
      dsimp only
      split
      · exact giveReply_run h
      · split
        · exact giveReply_run h
        · rw [giveReply_books, appendRecord_books]
          exact h.appended fun _ => books_room.mpr hroom
  · rw [cashPath_full (Nat.not_lt.mp hroom), giveReply_books]
    exact h

theorem sortCard_run {kind : CardKind} (h : BookRun b₀ s.books) (hst : ∀ x ∈ s.books.sales, x.station ≠ st) :
    BookRun b₀ (s.sortCard st n now image kind p).books := by
  cases hd : s.decoder.decode image.identity.card.toNat with
  | stopped => rw [sortCard_stopped hd, giveReply_books]; exact h
  | unknown => rw [sortCard_unknown hd, giveReply_books]; exact h
  | cashOnly g entry => rw [sortCard_cashOnly hd]; exact cashPath_run h
  | purse g allowance entry =>
    cases hs : selectSlot image with
    | damaged why => rw [sortCard_damaged hd hs, giveReply_books]; exact h
    | current slot target =>
      cases hc : s.sale.contextOfCard image.identity.card.toNat with
      | some c => rw [sortCard_inUse hd hs hc, giveReply_books]; exact h
      | none =>
        rw [sortCard_purse hd hs hc]
        refine pursePath_run h hst (List.forall_mem_map.mpr fun c hcs => ?_)
        simpa using List.find?_eq_none.mp hc c hcs

theorem present_run (h : BookRun b₀ s.books) : BookRun b₀ (s.present st n image p).books := by
  cases ho : p.offence with
  | some k => rw [present_offence ho, giveReply_books]; exact h
  | none =>
    cases h1 : s.step1 st p with
    | some r => rw [present_step1 ho h1, giveReply_books]; exact h
    | none =>
      have hnone : s.sale.contextOf st = none := by
        simp only [State.step1] at h1
        split_ifs at h1
        exact Option.map_eq_none_iff.mp h1
      cases hid : identityCheck image.identity s.clock.day with
      | none => rw [present_identity ho h1 hid, giveReply_books]; exact h
      | some kind =>
        rw [present_sorts ho h1 hid]
        refine sortCard_run h (List.forall_mem_map.mpr fun c hc => ?_)
        simpa using List.find?_eq_none.mp hnone c hc

end CheckOrder

end Sys2Proof.Machine

/-! PROOFS. The commands on the books: the Sale Engine's, the two starts and JOURNAL_RELEASE move them, no other
does; and the laws of the journal (O7), of the cards (O9) and of the context flags (O10) that every step keeps. -/

namespace Sys2Proof.Machine

open Sys2Proof

/-! ### The engine's other commands -/

section Engine

variable {b₀ : Books} {s : State} {st : StationId} {n : Nat}

theorem done_run (h : BookRun b₀ s.books) : BookRun b₀ (s.done st n).1.books := by
  unfold State.done
  split
  next hfound =>
    split
    · exact h
    · exact commit_run h (mem_contexts_of_found hfound)
  next hfound => exact endsDoubt_run h (mem_doubts_of_found hfound) (endHappened_endsDoubt ..)
  · exact h
  · exact h

theorem torn_run (h : BookRun b₀ s.books) : BookRun b₀ (s.torn st n).1.books := by
  unfold State.torn
  split
  next hfound =>
    split
    · exact voidContext_run h (mem_contexts_of_found hfound)
    · exact moveToDoubt_run _ h (mem_contexts_of_found hfound)
  · exact h
  · exact h
  · exact h

theorem cancelled_run (h : BookRun b₀ s.books) : BookRun b₀ (s.cancelled st n).1.books := by
  unfold State.cancelled
  split
  next hfound => exact voidContext_run h (mem_contexts_of_found hfound)
  next hfound => exact endsDoubt_run h (mem_doubts_of_found hfound) (endNotHappened_endsDoubt ..)
  · exact h
  · exact h

theorem complete_run {number : Byte} {table : State → State × StationReply} (h : BookRun b₀ s.books)
    (htable : BookRun b₀ (table s).1.books) : BookRun b₀ (s.complete st number table).books := by
  unfold State.complete
  split
  · exact giveReply_run h
  · exact giveReply_run htable

theorem takeLoss_run {c : Context} (cause : LossCause) (h : BookRun b₀ s.books) (hc : c ∈ s.sale.contexts) :
    BookRun b₀ (s.takeLoss c cause).books := by
  have hvoid := voidContext_run h hc
  have hmove := moveToDoubt_run .stationLost h hc
  unfold State.takeLoss
  split
  · split
    · exact hvoid
    · exact h
  · split
    · exact hvoid
    · exact hmove
  · split
    · exact hvoid
    · exact hmove

theorem dismiss_run {h : Handed} {card : Nat} (hs : BookRun b₀ s.books) :
    BookRun b₀ (s.dismiss h card n).books := by
  unfold State.dismiss
  split
  · exact hs
  · split
    · exact hs
    next hfound =>
      rw [reply_books]
      exact endsDoubt_run hs (List.mem_of_find?_eq_some hfound) (endUnresolved_endsDoubt ..)

end Engine

/-! ### The warm start (04 R86, 12 R196) -/

section Warm

variable {b₀ : Books} {s : State}

/-- What holds of the state through the ends or moves of several contexts, each still in the table when its
turn comes. -/
theorem foldl_contexts {P : State → Prop} {f : State → Context → State}
    (hP : ∀ s c, P s → c ∈ s.sale.contexts → P (f s c))
    (hcontexts : ∀ s c, (f s c).sale.contexts =
      s.sale.contexts.filter fun x => x.data.sale ≠ c.data.sale)
    (cs : List Context) {s : State} (h : P s) (hmem : ∀ c ∈ cs, c ∈ s.sale.contexts)
    (hn : (cs.map (·.data.sale)).Nodup) :
    P (cs.foldl f s) ∧ (cs.foldl f s).sale.contexts =
      s.sale.contexts.filter fun x => x.data.sale ∉ cs.map (·.data.sale) := by
  induction cs generalizing s with
  | nil => exact ⟨h, (List.filter_eq_self.mpr (by simp)).symm⟩
  | cons c cs ih =>
    rw [List.map_cons, List.nodup_cons] at hn
    obtain ⟨hrest, hleft⟩ := ih (hP s c h (hmem c List.mem_cons_self)) (fun x hx => by
      rw [hcontexts, List.mem_filter]
      exact ⟨hmem x (List.mem_cons_of_mem c hx), decide_eq_true fun heq =>
        hn.1 (heq ▸ List.mem_map_of_mem hx)⟩) hn.2
    refine ⟨hrest, hleft.trans ?_⟩
    rw [hcontexts, List.filter_filter]
    refine List.filter_congr fun x _ => ?_
    by_cases hx : x.data.sale = c.data.sale <;> simp [hx]

/-- A context that the start has not voided is one that it moves. -/
theorem ordered_left (hn : (s.sale.contexts.map (·.data.sale)).Nodup) :
    (s.sale.contexts.filter fun x => x.data.sale ∉ s.sale.unsent.map (·.data.sale)) = s.sale.ordered := by
  refine List.filter_congr fun c hc => ?_
  have hvoided : c.data.sale ∈ s.sale.unsent.map (·.data.sale) ↔ c.state = .pricedUnsent := by
    constructor
    · intro hmem
      obtain ⟨x, hx, hnum⟩ := List.mem_map.mp hmem
      obtain ⟨hxs, hstate⟩ := List.mem_filter.mp hx
      obtain rfl : x = c := List.inj_on_of_nodup_map hn hxs hc hnum
      exact of_decide_eq_true hstate
    · exact fun hstate => List.mem_map_of_mem (List.mem_filter.mpr ⟨hc, decide_eq_true hstate⟩)
  exact decide_eq_decide.mpr (not_congr hvoided)

/-- Steps 1 to 4 of the engine, for what the voids and the moves keep. -/
theorem warmEngine_kept {P : State → Prop} (hn : (s.sale.contexts.map (·.data.sale)).Nodup)
    (h : P { s with sale := { s.sale with queue := [] } })
    (hvoid : ∀ s c, P s → c ∈ s.sale.contexts → P (s.voidContext c))
    (hmove : ∀ s c, P s → c ∈ s.sale.contexts → P (s.moveToDoubt c .warmStart)) : P s.warmEngine := by
  have sub (p : Context → Bool) : ((s.sale.contexts.filter p).map (·.data.sale)).Nodup :=
    (List.filter_sublist.map _).nodup hn
  obtain ⟨hP, hleft⟩ := foldl_contexts hvoid voidContext_contexts s.sale.unsent h
    (fun c hc => (List.mem_filter.mp hc).1) (sub _)
  refine (foldl_contexts hmove (fun s c => moveToDoubt_contexts s c .warmStart) s.sale.ordered hP
    (fun c hc => ?_) (sub _)).1
  rw [hleft]
  exact ordered_left hn ▸ hc

theorem warmed_flag (r : StationRecord) : r.warmed.contextFlag = r.contextFlag := by
  unfold StationRecord.warmed
  dsimp only
  split <;> rfl

theorem recompute_books (s : State) (cause : BoundaryCause) : (s.recompute cause).books = s.books := by
  simp only [State.recompute]
  split <;> rfl

theorem warmStart_run (cause : WarmCause) (hj : s.JournalLaw) (h : BookRun b₀ s.books) :
    BookRun b₀ (s.warmStart cause).books := by
  have hlanes : ({ s with laneA := s.laneA.warmed, laneB := s.laneB.warmed } : State).books = s.books := by
    refine books_of_flags s rfl rfl fun st => ?_
    rcases st with ⟨_ | _, a⟩ <;> simp [State.station, State.lane, LaneControl.warmed, warmed_flag]
  simp only [State.warmStart, recompute_books]
  refine warmEngine_kept (P := fun t => BookRun b₀ t.books) hj.numbered.contexts_nodup ?_
    (fun _ _ => voidContext_run) (fun _ _ => moveToDoubt_run .warmStart)
  exact hlanes.symm ▸ h

end Warm

/-! ### The lanes leave the books as they are -/

section Lanes

variable (r : StationRecord) (st : StationId) (now : Time) (settings : LaneSettings)

theorem confirm_flag (seen : Option Byte) : (r.confirm seen).contextFlag = r.contextFlag := by
  unfold StationRecord.confirm
  split
  · split <;> rfl
  · rfl

theorem dropDeed_flag (mode : RecoveryMode) : (r.dropDeed st now mode).record.contextFlag = r.contextFlag := by
  unfold StationRecord.dropDeed
  dsimp only
  split <;> rfl

theorem failDeed_flag (k : FailureKind) :
    (r.failDeed st now settings k).record.contextFlag = r.contextFlag := by
  unfold StationRecord.failDeed
  dsimp only
  split
  · exact dropDeed_flag ..
  · split <;> rfl

theorem scoreDeed_flag (a : Answer) : (r.scoreDeed st now settings a).record.contextFlag = r.contextFlag := by
  unfold StationRecord.scoreDeed
  split
  · split
    · exact failDeed_flag ..
    · rfl
  · rfl

theorem callDeed_flag (mode : RecoveryMode) : (r.callDeed st now mode).record.contextFlag = r.contextFlag := by
  unfold StationRecord.callDeed
  dsimp only
  split
  · split <;> rfl
  · rfl

theorem admitDeed_flag (n : Byte) (q : StationRequest) :
    (r.admitDeed st n q).record.contextFlag = r.contextFlag := by
  unfold StationRecord.admitDeed
  split_ifs <;> rfl

theorem leaveDeed_flag : (r.leaveDeed st).record.contextFlag = r.contextFlag := by
  unfold StationRecord.leaveDeed
  split <;> rfl

theorem answerDeed_flag (k : PollKind) (a : Answer) :
    (r.answerDeed st k a).record.contextFlag = r.contextFlag := by
  unfold StationRecord.answerDeed
  split
  · split <;> rfl
  · split
    · exact admitDeed_flag ..
    · rfl
    · rfl
  · split
    · exact admitDeed_flag ..
    · exact leaveDeed_flag ..
    · rfl
  · split
    · exact admitDeed_flag ..
    · exact leaveDeed_flag ..
    · rfl
  · split
    · exact admitDeed_flag ..
    · rfl
  · rfl
  · rfl

theorem endDeed_flag (k : PollKind) (e : ExchangeEnd) :
    (r.endDeed st now settings k e).record.contextFlag = r.contextFlag := by
  have answered (a : Answer) : ((r.confirm a.lastSeen).answerDeed st k a).record.contextFlag = r.contextFlag :=
    (answerDeed_flag ..).trans (confirm_flag ..)
  unfold StationRecord.endDeed
  split
  · split
    · exact (scoreDeed_flag ..).trans (answered _)
    · exact (scoreDeed_flag ..).trans (answered _)
    · exact (scoreDeed_flag ..).trans (answered _)
    · exact (callDeed_flag ..).trans (answered _)
    · exact answered _
    · exact answered _
    · rfl
  · split
    · exact failDeed_flag ..
    · exact failDeed_flag ..
    · exact failDeed_flag ..
    · rfl
    · unfold StationRecord.silentDeed
      split <;> rfl
    · rfl
    · rfl

variable (s : State) (l : Lane)

@[simp] theorem endExchange_books (x : Exchange) (e : ExchangeEnd) : (s.endExchange l x e).books = s.books := by
  rw [endExchange_eq, does_books _ ((endDeed_flag ..).trans (congrArg _ (station_clearExchange ..).symm))]
  exact setLane_books s fun _ => rfl

@[simp] theorem sendTo_books (a : Fin 8) (k : PollKind) : (s.sendTo l a k).books = s.books := by
  have handed (t : State) (n : Option Nat) : (t.handDelivery ⟨l, a⟩ n).books = t.books := by cases n <;> rfl
  simp only [State.sendTo, handed]
  refine setLane_books s fun b => ?_
  by_cases h : b = a
  · subst h
    simp [LaneControl.setStation, StationRecord.polled]
  · simp [LaneControl.setStation, Eight.get_set_other _ h]

@[simp] theorem sendNext_books : (s.sendNext l).books = s.books := by
  unfold State.sendNext
  split
  · exact sendTo_books ..
  · exact setLane_books s fun _ => rfl

@[simp] theorem laneTaken_books (rest : List Handed) : (s.laneTaken l rest).books = s.books :=
  setLane_books s fun _ => rfl

@[simp] theorem laneSet_books (h : Handed) (m : LaneMode) : (s.laneSet h l m).books = s.books := by
  have off : (s.laneEntersOff l).books = s.books := by
    refine setLane_books s (l := l) (x := { s.lane l with
      mode := .off, exchange := none, position := some 0, waiting := none
      stations := (s.lane l).stations.map fun r => if r.state = .absent then r else r.madeAbsent }) fun a => ?_
    rw [Eight.get_map]
    split <;> rfl
  have moded (m : LaneMode) (p : Option (Fin 8)) :
      (s.setLane l { s.lane l with mode := m, position := p, waiting := none }).books = s.books :=
    setLane_books s fun _ => rfl
  simp only [State.laneSet]
  split
  · rfl
  · rfl
  · rfl
  · rfl
  · exact off
  · exact off
  · exact moded ..
  · exact moded ..
  · exact moded ..

end Lanes

/-! ### The commands -/

/-- The commands that move the books. -/
def movesBooks : Instr → Bool
  | .doubtDismiss | .saleOpen | .reverse | .saleDone | .saleTorn | .saleCancel | .writeTimerExpiry _
  | .lossEvent | .journalRelease | .warmStart | .coldStart => true
  | _ => false

section Commands

variable {s t u : State}

theorem whenRunning_books (h : whenRunning s u = .next t) (hu : u.books = s.books) : t.books = s.books := by
  rcases whenRunning_next h with ⟨-, rfl⟩ | ⟨-, rfl⟩
  · exact hu
  · rfl

theorem whenStarted_books (h : whenStarted s u = .next t) (hu : u.books = s.books) : t.books = s.books := by
  rcases whenStarted_next h with ⟨-, rfl⟩ | ⟨-, rfl⟩
  · exact hu
  · rfl

theorem books_of_next (h : (.next u : Result) = .next t) (hu : u.books = s.books) : t.books = s.books := by
  obtain rfl := Host.Outcome.next.inj h
  exact hu

theorem takeRequest_books (s : State) (f : TakenFrame) (reading : Option HostRequest) :
    (s.takeRequest f reading).books = s.books := by
  have handed (v : State) (o : Owner) (h : Handed) : (v.hand o h).books = v.books := by
    cases o with
    | lane l => exact setLane_books v fun _ => rfl
    | _ => rfl
  unfold State.takeRequest
  split
  · rfl
  · exact handed ..

theorem runTimers_books (s : State) : s.runTimers.books = s.books := by
  unfold State.runTimers
  split
  · simp [State.books, Function.comp_def, Context.second_data]
  · rfl

theorem stopTraffic_books (s : State) : s.stopTraffic.books = s.books := by
  refine books_of_flags s rfl rfl fun st => ?_
  rcases st with ⟨_ | _, a⟩ <;> rfl

theorem stationReplied_books {l : Lane} {rest : List Handed} {st : StationId} {r : StationRecord} {h : Handed}
    {a : HostReply} (hr : r.contextFlag = ((s.laneTaken l rest).station st).contextFlag) :
    (((s.laneTaken l rest).setStation st r).reply h a).books = s.books :=
  (setStation_books _ hr).trans (laneTaken_books ..)

theorem laneReplied_books {l : Lane} {rest : List Handed} {c : LaneControl} {h : Handed} {a : HostReply}
    (hc : c.stations = ((s.laneTaken l rest).lane l).stations) :
    (((s.laneTaken l rest).setLane l c).reply h a).books = s.books :=
  (setLane_books _ fun _ => by rw [hc]).trans (laneTaken_books ..)

theorem swap_books (s : State) (cause : SwapCause) : (s.swap cause).books = s.books := by
  unfold State.swap
  split <;> rfl

/-- Every other command leaves the books as they are. -/
theorem exec_books {i : Instr} (hi : movesBooks i = false) (h : exec i s = .next t) : t.books = s.books := by
  cases i with
  | doubtDismiss | saleOpen | reverse | saleDone | saleTorn | saleCancel | writeTimerExpiry | lossEvent
  | journalRelease | warmStart | coldStart => nomatch hi
  | officeFrameReceived =>
    refine whenRunning_books h ?_
    dsimp only
    split
    · rfl
    · exact takeRequest_books ..
  | frameSendStart | officeStartMarker =>
    refine whenRunning_books h ?_
    split <;> rfl
  | frameSentInFull =>
    refine whenRunning_books h ?_
    split
    · unfold State.sent
      split <;> rfl
    · rfl
  | officeByteGapTimeout => exact whenRunning_books h rfl
  | frameLengthOverLimit =>
    refine whenRunning_books h ?_
    split
    · split <;> rfl
    · rfl
  | creditOrder =>
    refine whenRunning_books h ?_
    split
    · unfold State.creditOrder
      dsimp only
      split
      · rfl
      · split
        · rfl
        · split <;> rfl
    · rfl
  | cancelCredit =>
    refine whenRunning_books h ?_
    split
    · unfold State.cancelCredit
      split
      · rfl
      · split <;> rfl
    · rfl
  | queryCredits | queryCard | doubtList | saleList | writeTimerSet =>
    refine whenRunning_books h ?_
    split <;> rfl
  | deliveryEvent =>
    refine whenRunning_books h ?_
    split
    · rfl
    next d rest _ =>
      have hdata : ∀ c : Context,
          (if d.names c then c.delivered s.sale.timerSetting else c).data = c.data := fun c => by
        split
        · exact c.delivered_data _
        · rfl
      simp [State.books, Function.comp_def, hdata]
  | stopAdd | stopRemove | stopClear | stopList | rangeSet | rangeClear | rangeDefault | rangeList
  | classQuery | tariffBegin | tariffItems | tariffGroup | tariffEnd | tariffList | clockRead | journalFetch
  | totalsRead | dayClose | status | softReset =>
    refine whenRunning_books h ?_
    split <;> rfl
  | setClock =>
    refine whenRunning_books h ?_
    split
    · unfold State.setClock
      split_ifs
      · rfl
      · rfl
      · exact recompute_books ..
    · rfl
  | setPeriods =>
    refine whenRunning_books h ?_
    split
    · unfold State.setPeriods
      split_ifs
      · rfl
      · exact recompute_books ..
    · rfl
  | setHall =>
    refine whenRunning_books h ?_
    split
    · unfold State.setHall
      split_ifs <;> rfl
    · rfl
  | openHall =>
    refine whenRunning_books h ?_
    split
    · simp only [State.openHall]
      split <;> rfl
    · rfl
  | suspend =>
    refine whenRunning_books h ?_
    split
    · unfold State.suspendHall
      split <;> rfl
    · rfl
  | resume =>
    refine whenRunning_books h ?_
    split
    · unfold State.resumeHall
      split <;> rfl
    · rfl
  | clearAll =>
    refine whenRunning_books h ?_
    split
    · unfold State.clearAll
      split_ifs <;> rfl
    · rfl
  | tariffSwapNow =>
    refine whenRunning_books h ?_
    split
    · dsimp only
      split
      · exact swap_books ..
      · rfl
    · rfl
  | tariffBoundarySwap =>
    refine whenStarted_books h ?_
    split
    · exact swap_books ..
    · rfl
  | periodCounterCapture =>
    refine whenStarted_books h ?_
    split <;> rfl
  | laneSet =>
    refine whenRunning_books h ?_
    split
    · exact (laneSet_books ..).trans (laneTaken_books ..)
    · rfl
  | laneSettings =>
    refine whenRunning_books h ?_
    split
    · dsimp only
      split
      · exact laneReplied_books rfl
      · exact laneTaken_books ..
    · rfl
  | clearStationErrors =>
    refine whenRunning_books h ?_
    split
    · exact stationReplied_books rfl
    · exact laneTaken_books ..
    · rfl
  | clearLineStuck =>
    refine whenRunning_books h ?_
    split
    · exact laneReplied_books rfl
    · rfl
  | laneRead =>
    refine whenRunning_books h ?_
    split
    · exact laneTaken_books ..
    · rfl
  | enroll | restore =>
    refine whenRunning_books h ?_
    split
    · dsimp only
      split
      · exact stationReplied_books rfl
      · exact laneTaken_books ..
    · exact laneTaken_books ..
    · rfl
  | release =>
    refine whenRunning_books h ?_
    split
    · dsimp only
      split
      · exact laneTaken_books ..
      · exact laneTaken_books ..
      · exact laneTaken_books ..
      · split
        · exact laneTaken_books ..
        · exact stationReplied_books rfl
    · exact laneTaken_books ..
    · rfl
  | sendPoll =>
    refine whenRunning_books h ?_
    dsimp only
    split
    · exact sendNext_books ..
    · rfl
  | laneAnswer =>
    refine whenRunning_books h ?_
    split
    · rfl
    · dsimp only
      split
      · exact endExchange_books ..
      · exact setLane_books s fun _ => rfl
  | answerTimeout =>
    refine whenRunning_books h ?_
    split
    · rfl
    · exact endExchange_books ..
  | lineStuck =>
    refine whenRunning_books h ?_
    dsimp only
    split
    · split
      · rfl
      · split
        · exact setLane_books s fun _ => rfl
        · exact setLane_books s fun _ => rfl
    · rfl
  | lineIdleResume =>
    refine whenRunning_books h ?_
    dsimp only
    split
    · split
      · exact sendTo_books ..
      · rfl
    · rfl
  | minuteAdvance =>
    refine books_of_next h ?_
    dsimp only
    split
    · split
      · exact (recompute_books ..).trans (runTimers_books ..)
      · rfl
    · rfl
  | secondsCountAdvance =>
    refine books_of_next h ?_
    split
    · exact runTimers_books ..
    · split
      · exact runTimers_books ..
      · rfl
  | backupFailure => exact books_of_next h rfl
  | mainSupplyLoss =>
    refine books_of_next h ?_
    split
    · exact stopTraffic_books s
    · rfl
  | mainSupplyReturn | resetLineRelease =>
    refine books_of_next h ?_
    split <;> rfl
  | resetLineAssert =>
    refine books_of_next h ?_
    split
    · rfl
    · split
      · exact stopTraffic_books s
      · rfl

theorem whenRunning_run {b₀ : Books} (h : whenRunning s u = .next t) (hs : BookRun b₀ s.books)
    (hu : BookRun b₀ u.books) : BookRun b₀ t.books := by
  rcases whenRunning_next h with ⟨-, rfl⟩ | ⟨-, rfl⟩
  · exact hu
  · exact hs

/-- Every command makes moves on the books. -/
theorem exec_run {b₀ : Books} {i : Instr} (hj : s.JournalLaw) (hs : BookRun b₀ s.books)
    (h : exec i s = .next t) : BookRun b₀ t.books := by
  have hdequeued : BookRun b₀ s.dequeued.books := hs
  cases i with
  | doubtDismiss =>
    refine whenRunning_run h hs ?_
    split
    · exact dismiss_run hdequeued
    · exact hs
  | saleOpen | reverse =>
    refine whenRunning_run h hs ?_
    split
    · exact present_run hdequeued
    · exact hs
  | saleDone =>
    refine whenRunning_run h hs ?_
    split
    · exact complete_run hdequeued (done_run hdequeued)
    · exact hs
  | saleTorn =>
    refine whenRunning_run h hs ?_
    split
    · exact complete_run hdequeued (torn_run hdequeued)
    · exact hs
  | saleCancel =>
    refine whenRunning_run h hs ?_
    split
    · exact complete_run hdequeued (cancelled_run hdequeued)
    · exact hs
  | writeTimerExpiry n =>
    refine whenRunning_run h hs ?_
    split
    next hfound => exact moveToDoubt_run .timer hs (List.mem_of_find?_eq_some hfound)
    · exact hs
  | lossEvent =>
    refine whenRunning_run h hs ?_
    split
    · exact hs
    next l rest _ =>
      dsimp only
      split
      next hfound => exact takeLoss_run l.cause hs (List.mem_of_find?_eq_some hfound)
      · exact hs
  | journalRelease =>
    refine whenRunning_run h hs ?_
    split
    next n rest _ =>
      dsimp only
      unfold JournalTotals.release
      split
      · exact hs.released
      · exact hs
    · exact hs
  | warmStart =>
    obtain rfl := Host.Outcome.next.inj h
    split
    · exact warmStart_run _ hj hs
    · exact hs
  | coldStart =>
    obtain rfl := Host.Outcome.next.inj h
    split
    · exact .cold
    · exact hs
  | _ => exact (exec_books rfl h).symm ▸ hs

/-- A step makes moves on the books. -/
theorem step_run (hj : s.JournalLaw) (h : step s = .next t) : BookRun s.books t.books := by
  unfold step at h
  split at h
  · obtain rfl := Host.Outcome.next.inj h
    exact .start
  next c rest _ => exact exec_run (s := { s with pending := rest }) ⟨hj.consecutive, hj.numbered, hj.reserved⟩ .start h

end Commands

/-- Settles O7. -/
theorem journalLawKept : Obligations.JournalLawKept := fun _ _ hj hstep =>
  journalLaw_iff.mpr ((step_run hj hstep).journalled (journalLaw_iff.mp hj))

/-- Settles O9. -/
theorem cardsHeldKept : Obligations.CardsHeldKept := fun _ _ hj hc hstep =>
  cardsHeld_iff.mpr ((step_run hj hstep).carded (journalLaw_iff.mp hj) (cardsHeld_iff.mp hc))

/-- Settles O10. -/
theorem flagsAgreeKept : Obligations.FlagsAgreeKept := fun _ _ hj hc hf hstep =>
  flagsAgree_iff.mpr
    ((step_run hj hstep).flagged (journalLaw_iff.mp hj) (cardsHeld_iff.mp hc) (flagsAgree_iff.mp hf))

end Sys2Proof.Machine

/-! PROOFS. The office line: what the receiver collects and takes (O15, O20), the four tests of admission (O18, O19),
and the transmitter (O21, O22). -/

namespace Sys2Proof.Machine

open Sys2Proof

/-! ### The receiver on a frame of 13.2 -/

section Receiver

variable {kind tag : Byte} {body : List Byte} {check : BitVec 16}

theorem join16_nat16 {n : Nat} (h : n ≤ 1024) {l1 l0 : Byte} (e : nat16 n = [l1, l0]) :
    (join16 l1 l0).toNat = n := by
  simp only [nat16, be16, List.cons.injEq, and_true] at e
  obtain ⟨rfl, rfl⟩ := e
  rw [join16_be16, BitVec.toNat_ofNat]
  omega

theorem be16_injective {v w : BitVec 16} (h : be16 v = be16 w) : v = w := by
  simp only [be16, List.cons.injEq, and_true] at h
  obtain ⟨hhigh, hlow⟩ := h
  rw [← join16_be16 v, ← join16_be16 w, hhigh, hlow]

/-- What the receiver has of a frame is whole only with the frame's last byte. -/
theorem collectedSoFar_part {p q : List Byte} (hb : body.length ≤ 1024)
    (h : officeInner kind tag body ++ be16 check = p ++ q) :
    collectedSoFar p = if q = [] then .whole else .more := by
  have hlen := congrArg List.length h
  simp only [officeInner, List.length_append, List.length_cons, nat16_length, be16_length] at hlen
  have hq : q = [] ↔ q.length = 0 := List.length_eq_zero_iff.symm
  match p, h with
  | [], _ | [_], _ =>
    rw [if_neg (by rw [hq]; simp only [List.length_cons, List.length_nil] at hlen; omega)]
    rfl
  | l1 :: l0 :: rest, h =>
    have hn : nat16 body.length = [l1, l0] := by
      simpa [officeInner, nat16, be16] using congrArg (List.take 2) h
    have hjoin : (join16 l1 l0).toNat = body.length := join16_nat16 hb hn
    simp only [List.length_cons] at hlen
    simp only [collectedSoFar, hjoin, Config.bodyLimit]
    rw [if_neg (by omega)]
    by_cases he : q = []
    · rw [if_pos he, if_neg (by have := hq.mp he; omega)]
    · rw [if_neg he, if_pos (by have := mt hq.mpr he; omega)]

/-- Bytes that do not reach the frame's end leave the receiver INSIDE it. -/
theorem collect_part {p m q : List Byte} (hb : body.length ≤ 1024)
    (h : officeInner kind tag body ++ be16 check = p ++ m ++ q) (hq : q ≠ []) :
    (Receiver.inside p).collect m = (.inside (p ++ m), none) := by
  induction m generalizing p with
  | nil => simp [Receiver.collect]
  | cons b m ih =>
    have hnext := collectedSoFar_part (p := p ++ [b]) (q := m ++ q) hb (by simpa using h)
    rw [if_neg (by simp [hq])] at hnext
    simp only [Receiver.collect, hnext]
    simpa using ih (p := p ++ [b]) (by simpa using h)

/-- The bytes up to the frame's end complete it, and the receiver hunts again. -/
theorem collect_rest {p q after : List Byte} (hb : body.length ≤ 1024)
    (h : officeInner kind tag body ++ be16 check = p ++ q) (hq : q ≠ []) :
    (Receiver.inside p).collect (q ++ after) = (.hunting, some (officeInner kind tag body ++ be16 check)) := by
  induction q generalizing p with
  | nil => exact absurd rfl hq
  | cons b q ih =>
    have hnext := collectedSoFar_part (p := p ++ [b]) (q := q) hb (by simpa using h)
    by_cases hlast : q = []
    · rw [if_pos hlast] at hnext
      simp only [List.cons_append, Receiver.collect, hnext]
      rw [h, hlast]
    · rw [if_neg hlast] at hnext
      simp only [List.cons_append, Receiver.collect, hnext]
      exact ih (by simpa using h) hlast

/-- A hunting receiver passes over bytes that hold no start marker. -/
theorem collect_before {before rest : List Byte} (h : (165 : Byte) ∉ before) :
    Receiver.hunting.collect (before ++ 165 :: rest) = (Receiver.inside []).collect rest := by
  induction before with
  | nil => simp [Receiver.collect]
  | cons b before ih =>
    rw [List.mem_cons, not_or] at h
    rw [List.cons_append, Receiver.collect, if_neg (Ne.symm h.1), ih h.2]

theorem collect_laid {before after : List Byte} (hb : body.length ≤ 1024) (hbefore : (165 : Byte) ∉ before) :
    Receiver.hunting.collect (before ++ (165 :: officeInner kind tag body ++ be16 check) ++ after) =
      (.hunting, some (officeInner kind tag body ++ be16 check)) := by
  rw [List.append_assoc, List.cons_append, List.cons_append, collect_before hbefore]
  exact collect_rest hb rfl (by simp [be16])

theorem collect_frame {before after : List Byte} (hb : body.length ≤ 1024) (hbefore : (165 : Byte) ∉ before) :
    Receiver.hunting.collect (before ++ officeFrame kind tag body ++ after) =
      (.hunting, some ((officeFrame kind tag body).drop 1)) :=
  collect_laid hb hbefore

/-- A frame that arrives alone, with whatever check. -/
theorem collect_alone {r : Receiver} (hr : r = .hunting) (hb : body.length ≤ 1024) :
    r.collect (165 :: officeInner kind tag body ++ be16 check) =
      (.hunting, some (officeInner kind tag body ++ be16 check)) := by
  simpa only [hr, List.nil_append, List.append_nil] using
    collect_laid (before := []) (after := []) hb List.not_mem_nil

/-- What the check and the kind make of a frame collected whole. -/
theorem takeFrame_laid : takeFrame (officeInner kind tag body ++ be16 check) =
    if check = crc16 (officeInner kind tag body) ∧ kind.toNat < 64 then some ⟨kind, tag, body⟩ else none := by
  have hinner : (officeInner kind tag body ++ be16 check).dropLast.dropLast = officeInner kind tag body := by
    rw [be16, ← List.singleton_append (l := [BitVec.extractLsb' 0 8 check]), ← List.append_assoc,
      List.dropLast_concat, List.dropLast_concat]
  have hcheck : (officeInner kind tag body ++ be16 check).drop
      ((officeInner kind tag body ++ be16 check).length - 2) = be16 check := by
    simp
  unfold takeFrame
  rw [hcheck]
  simp only [hinner]
  by_cases hc : check = crc16 (officeInner kind tag body)
  · rw [if_neg (not_not.mpr (congrArg be16 hc))]
    simp [officeInner, nat16, be16, hc]
  · rw [if_pos (mt be16_injective hc), if_neg (fun hboth => hc hboth.1)]

theorem takeFrame_frame (hk : kind.toNat < 64) :
    takeFrame ((officeFrame kind tag body).drop 1) = some ⟨kind, tag, body⟩ :=
  takeFrame_laid.trans (if_pos ⟨rfl, hk⟩)

/-- A length above the limit ends the frame, and the hunt goes on from the next byte. -/
theorem collect_overLimit {length : BitVec 16} {bytes : List Byte} (h : 1024 < length.toNat) :
    Receiver.hunting.collect (165 :: be16 length ++ bytes) = Receiver.hunting.collect bytes := by
  simp [Receiver.collect, be16, collectedSoFar, join16_be16, Config.bodyLimit, h]

end Receiver

/-- Settles O15. -/
theorem officeFrameRead : Obligations.OfficeFrameRead := by
  intro kind tag body before after hk hb hbefore
  refine ⟨collect_frame hb hbefore, takeFrame_frame hk, fun first last h hlast => ⟨?_, ?_, ?_⟩⟩
  · rw [collect_before hbefore]
    exact collect_part hb h hlast
  · rintro part more rfl
    exact collect_part hb h hlast
  · exact collect_rest hb h hlast

/-! ### The receiver's commands (12 R188) -/

section Received

variable {s : State} {bytes got : List Byte} {reading : Option HostRequest} {r : Receiver}

theorem setReceiver_same (h : s.office.receiver = r) : s.setReceiver r = s := by
  subst h
  rfl

theorem exec_collecting (hr : s.running = true) (h : s.office.receiver.collect bytes = (r, none)) :
    exec (.officeFrameReceived bytes reading) s = .next (s.setReceiver r) := by
  refine (whenRunning_running hr _).trans (congrArg _ ?_)
  simp only [h, Option.bind_none]

theorem exec_discards (hr : s.running = true) (h : s.office.receiver.collect bytes = (r, some got))
    (hgot : takeFrame got = none) :
    exec (.officeFrameReceived bytes reading) s = .next (s.setReceiver r) := by
  refine (whenRunning_running hr _).trans (congrArg _ ?_)
  simp only [h, Option.bind_some, hgot]

theorem exec_takes {f : TakenFrame} (hr : s.running = true) (h : s.office.receiver.collect bytes = (r, some got))
    (hgot : takeFrame got = some f) :
    exec (.officeFrameReceived bytes reading) s = .next ((s.setReceiver r).takeRequest f reading) := by
  refine (whenRunning_running hr _).trans (congrArg _ ?_)
  simp only [h, Option.bind_some, hgot]

end Received

/-- Settles O20. -/
theorem frameDiscarded : Obligations.FrameDiscarded := by
  refine ⟨fun s hr => ⟨fun h => ?_, fun length hl h => ?_, whenRunning_running hr _⟩,
    fun s kind tag body reading hr h => ⟨fun hb hk => ?_, fun check hb hc => ?_, fun length bytes hl => ?_⟩⟩
  · refine (whenRunning_running hr _).trans (congrArg _ ?_)
    simp only [h]
    rfl
  · refine (whenRunning_running hr _).trans (congrArg _ ?_)
    simp only [h, Config.bodyLimit, if_pos hl]
    rfl
  · refine (exec_discards hr (collect_alone h hb) (takeFrame_laid.trans (if_neg ?_))).trans ?_
    · exact fun ⟨_, hlow⟩ => absurd hlow (Nat.not_lt.mpr hk)
    · rw [setReceiver_same h]
  · refine (exec_discards hr (collect_alone h hb) (takeFrame_laid.trans (if_neg ?_))).trans ?_
    · exact fun ⟨heq, _⟩ => hc heq
    · rw [setReceiver_same h]
  · refine (whenRunning_running hr _).trans (Eq.trans (congrArg _ ?_) (whenRunning_running hr _).symm)
    simp only [h, collect_overLimit hl]

/-! ### The four tests of admission (12 R189) -/

section Admission

variable {o : OfficeLink} {f : TakenFrame} {reading : Option HostRequest}

theorem admission_closing (h : o.closing ≠ none) : o.admission f reading = .refused .hostBusy none := if_pos h

theorem admission_inUse (hc : o.closing = none) (h : f.tag ∈ o.tags.map (·.tag)) :
    o.admission f reading = .refused .tagInUse none :=
  (if_neg (not_not.mpr hc)).trans (if_pos h)

theorem admission_full (hc : o.closing = none) (ht : f.tag ∉ o.tags.map (·.tag)) (h : 8 ≤ o.tags.length) :
    o.admission f reading = .refused .hostBusy none :=
  (if_neg (not_not.mpr hc)).trans ((if_neg ht).trans (if_pos h))

/-- A frame that passes the first three tests is read. -/
theorem admission_read (hc : o.closing = none) (ht : f.tag ∉ o.tags.map (·.tag)) (h : o.tags.length < 8) :
    o.admission f reading =
      match readFrame f reading with
      | none => .refused .badRequest (refusedEntry f reading)
      | some (r, owner) => .admitted r owner :=
  (if_neg (not_not.mpr hc)).trans ((if_neg ht).trans (if_neg (Nat.not_le.mpr h)))

theorem kind_request (r : HostRequest) : r.kind.toNat < 64 := by
  cases r <;> exact of_decide_eq_true rfl

theorem takeRequest_refused {s : State} {w : OutcomeWord} {entry : Option Nat}
    (h : s.office.admission f reading = .refused w entry) :
    s.takeRequest f reading = if s.office.refusals.length < 8 then
      { s with office := { s.office with
          refusals := s.office.refusals ++ [OfficeRefusal.mk f.tag f.kind w entry] } } else s := by
  simp only [State.takeRequest, h, OfficeLink.refuse, Config.refusalQueueSize]
  split <;> rfl

theorem takeRequest_admitted {s : State} {r : HostRequest} {owner : Owner}
    (h : s.office.admission f reading = .admitted r owner) :
    s.takeRequest f reading = ({ s with office := { s.office with
      tags := s.office.tags ++ [TagEntry.mk f.tag f.kind owner] } }).hand owner ⟨f.tag, r⟩ := by
  simp only [State.takeRequest, h]

/-- Only a SET_PERIODS names an entry in its refusal. -/
theorem refusedEntry_none (h : ∀ entries, readBody f.kind f.body reading ≠ some (.setPeriods entries)) :
    refusedEntry f reading = none := by
  unfold refusedEntry
  split
  next entries hread => exact absurd hread (h entries)
  · rfl

/-- A SET_PERIODS with a kind that is neither MEAL nor CLOSED names its first offending entry. -/
theorem refusedEntry_first {entries : List AskedPeriod}
    (h : readBody f.kind f.body reading = some (.setPeriods entries)) (hkind : ∃ e ∈ entries, e.kind = none) :
    ∃ k, refusedEntry f reading = some k ∧ FirstIndex (PeriodOffends entries) k := by
  obtain ⟨e, hmem, hnone⟩ := hkind
  obtain ⟨i, hi⟩ := List.mem_iff_getElem?.mp hmem
  obtain ⟨k, hfirst, hk⟩ := firstFrom_first (n := 0) (fun _ => periodOffends_iff)
    ⟨i, e, hi, .inr (.inr (.inl hnone))⟩
  refine ⟨k, ?_, hfirst⟩
  simp only [refusedEntry, h, offendingPeriod_whole, hk, Nat.zero_add]

/-- A body that can be read as no request of an owner, or only as a TOTALS_READ of no station, is not read. -/
theorem readFrame_none
    (h : ∀ r, readBody f.kind f.body reading = some r → r.owner = none ∨ r = .totalsRead none) :
    readFrame f reading = none := by
  refine Option.eq_none_iff_forall_ne_some.mpr fun ⟨r, owner⟩ hread => ?_
  obtain ⟨hbody, henum, howner⟩ := readFrame_some.mp hread
  rcases h r hbody with hnone | rfl
  · exact absurd (hnone.symm.trans howner) nofun
  · exact absurd henum (by decide)

/-- A SET_PERIODS with such a kind holds a value outside its list. -/
theorem readFrame_unlisted {entries : List AskedPeriod}
    (h : readBody f.kind f.body reading = some (.setPeriods entries)) (hkind : ∃ e ∈ entries, e.kind = none) :
    readFrame f reading = none := by
  obtain ⟨e, hmem, hnone⟩ := hkind
  refine Option.eq_none_iff_forall_ne_some.mpr fun ⟨r, owner⟩ hread => ?_
  obtain ⟨hbody, henum, -⟩ := readFrame_some.mp hread
  obtain rfl := Option.some.inj (h.symm.trans hbody)
  have hsome := List.all_eq_true.mp henum e hmem
  rw [hnone] at hsome
  cases hsome

end Admission

/-- Settles O18. -/
theorem frameAdmitted : Obligations.FrameAdmitted := by
  intro s kind tag body bytes before first last after reading hr hb hbefore hcut hlast
  refine ⟨?_, ?_, ?_⟩
  · rintro hrec rfl
    refine exec_collecting hr ?_
    rw [hrec, collect_before hbefore]
    exact collect_part hb hcut hlast
  · rintro part more rfl hrec rfl
    refine exec_collecting hr ?_
    rw [hrec]
    exact collect_part hb hcut hlast
  · rintro hbytes hclosing htag hroom r o rfl hreading hread henum howner
    have hcollect : s.office.receiver.collect bytes = (.hunting, some ((officeFrame r.kind tag body).drop 1)) := by
      rcases hbytes with ⟨hrec, rfl⟩ | ⟨hrec, rfl⟩
      · rw [hrec]
        exact collect_frame hb hbefore
      · rw [hrec]
        exact collect_rest hb hcut hlast
    have hframe : readFrame ⟨r.kind, tag, body⟩ reading = some (r, o) :=
      readFrame_some.mpr ⟨readBody_some.mpr ⟨rfl, hread, hreading⟩, henum, howner⟩
    have hadmitted : (s.setReceiver .hunting).office.admission ⟨r.kind, tag, body⟩ reading = .admitted r o :=
      (admission_read hclosing htag hroom).trans (by rw [hframe])
    rw [exec_takes hr hcollect (takeFrame_frame (kind_request r)), takeRequest_admitted hadmitted]
    rfl

/-- Settles O19. -/
theorem frameRefusedAtOnce : Obligations.FrameRefusedAtOnce := by
  intro s kind tag body reading hr hrec hb hk refusedWith reads
  have hreads (r : HostRequest) : readBody kind body reading = some r ↔ reads r :=
    readBody_some.trans ⟨fun ⟨hkind, hread, hfix⟩ => ⟨hfix, hkind, hread⟩,
      fun ⟨hfix, hkind, hread⟩ => ⟨hkind, hread, hfix⟩⟩
  have refused {w : OutcomeWord} {entry : Option Nat}
      (h : s.office.admission ⟨kind, tag, body⟩ reading = .refused w entry) : refusedWith w entry := by
    refine (exec_takes hr (collect_alone hrec hb) (takeFrame_frame hk)).trans (congrArg _ ?_)
    rw [setReceiver_same hrec]
    exact takeRequest_refused h
  refine ⟨fun hc => refused (admission_closing hc), fun hc ht => refused (admission_inUse hc ht),
    fun hc ht hfull => refused (admission_full hc ht hfull), fun hc ht hroom => ⟨fun hnone => ?_, ?_⟩⟩
  · have hunread : readFrame ⟨kind, tag, body⟩ reading = none :=
      readFrame_none fun r hread => hnone r ((hreads r).mp hread)
    have hentry : refusedEntry ⟨kind, tag, body⟩ reading = none :=
      refusedEntry_none fun entries hread => by
        rcases hnone _ ((hreads _).mp hread) with h | h <;> cases h
    refine refused ((admission_read hc ht hroom).trans ?_)
    rw [hunread, hentry]
  · intro entries hread hkind
    have hbody : readBody kind body reading = some (.setPeriods entries) := (hreads _).mpr hread
    obtain ⟨k, hentry, hfirst⟩ := refusedEntry_first (f := ⟨kind, tag, body⟩) hbody hkind
    refine ⟨k, refused ((admission_read hc ht hroom).trans ?_), hfirst⟩
    rw [readFrame_unlisted (f := ⟨kind, tag, body⟩) hbody hkind, hentry]

/-! ### The transmitter (12 R190, R191) -/

theorem exec_frameSendStart {s : State} {f : OutFrame} (hr : s.running = true) (hfree : s.office.sending = none)
    (h : s.office.nextFrame = some f) :
    exec .frameSendStart s = .next { s with office := s.office.begin f } := by
  refine (whenRunning_running hr _).trans (congrArg _ ?_)
  simp only [hfree, h]

/-- Settles O21. -/
theorem transmitterPicks : Obligations.TransmitterPicks := by
  intro s hr hfree
  refine ⟨fun f fs hf hturn => ?_, fun r rs hrep hturn => ?_, fun p ps hf hrep hp => ?_⟩
  · have hnext : s.office.nextFrame = some (.refusal f) := by
      rcases hturn with hnone | hturn
      · simp [OfficeLink.nextFrame, hf, hnone]
      · cases hrep : s.office.replies <;> simp [OfficeLink.nextFrame, hf, hrep, hturn]
    simp [exec_frameSendStart hr hfree hnext, OfficeLink.begin, hf]
  · have hnext : s.office.nextFrame = some (.reply r) := by
      rcases hturn with hnone | hturn
      · simp [OfficeLink.nextFrame, hrep, hnone]
      · cases hf : s.office.refusals <;> simp [OfficeLink.nextFrame, hf, hrep, hturn]
    simp [exec_frameSendStart hr hfree hnext, OfficeLink.begin, hrep]
  · have hnext : s.office.nextFrame = some (.report p s.office.overflow) := by
      simp [OfficeLink.nextFrame, hf, hrep, hp]
    simp [exec_frameSendStart hr hfree hnext, OfficeLink.begin, hp]

theorem exec_frameSentInFull {s : State} {x : Sending} (hr : s.running = true) (h : s.office.sending = some x) :
    exec .frameSentInFull s = .next (s.sent x) := by
  refine (whenRunning_running hr _).trans (congrArg _ ?_)
  simp only [h]

/-- The start that a reply brings, as R194 words it. -/
theorem startAfter_eq (closing : Option ClosingStart) (reply : HostReply) :
    startAfter closing reply =
      match reply, closing with
      | .softResetTaken, some .softReset => some (.warm .softReset)
      | .clearAllTaken _, some .clearAll => some (.cold false)
      | _, _ => none := by
  cases reply with
  | softResetTaken => rcases closing with _ | _ | _ <;> rfl
  | clearAllTaken hall => rcases closing with _ | _ | _ <;> rfl
  | _ => rfl

/-- Settles O22. -/
theorem frameSent : Obligations.FrameSent := by
  intro s x hr hx
  rw [exec_frameSentInFull hr hx]
  refine ⟨fun f hf => ?_, fun r hf => ?_, fun p carried hf => ?_⟩
  · simp only [State.sent, hf, OfficeLink.lineFree]
  · simp only [State.sent, hf, OfficeLink.lineFree, startAfter_eq] <;> rfl
  · have hoverflow : (s.office.overflow && !(carried && !x.dropped)) =
        if carried = true ∧ x.dropped = false then false else s.office.overflow := by
      cases carried <;> cases x.dropped <;> simp
    simp only [State.sent, hf, OfficeLink.lineFree, hoverflow]

end Sys2Proof.Machine

/-! PROOFS. The answer of a station, laid out by 13.3: it is collected whole and read as what it was made of
(O16). -/

namespace Sys2Proof.Machine

open Sys2Proof

/-! ### The body of a REQUEST -/

theorem takeSlotImage_bytes (slot : Option PurseSlot) (rest : List Byte) :
    takeSlotImage (StationRequest.bytes.slotBytes slot ++ rest) = some (slot, rest) := by
  cases slot with
  | none => rfl
  | some p =>
    have htake : (p.bytes ++ rest).take 16 = p.bytes := List.take_left' rfl
    have hdrop : (p.bytes ++ rest).drop 16 = rest := List.drop_left' rfl
    have hone : ¬ (1 : Byte) = 0 := by decide
    rw [StationRequest.bytes.slotBytes, List.cons_append, takeSlotImage, if_neg hone, if_pos rfl, htake, hdrop,
      slot_ofBytes, Option.map_some]

theorem takeImage_bytes (image : CardImage) (rest : List Byte) :
    takeImage (image.identity.bytes ++ (StationRequest.bytes.slotBytes image.slot0 ++
      (StationRequest.bytes.slotBytes image.slot1 ++ rest))) = some (image, rest) := by
  have htake (bs : List Byte) : (image.identity.bytes ++ bs).take 8 = image.identity.bytes := List.take_left' rfl
  have hdrop (bs : List Byte) : (image.identity.bytes ++ bs).drop 8 = bs := List.drop_left' rfl
  unfold takeImage
  rw [htake, hdrop, identity_ofBytes]
  simp only [Option.bind_eq_bind, Option.bind_some, takeSlotImage_bytes]

theorem readLines_bytes (lines : List BasketLine) :
    readLines (lines.flatMap fun l => be16 l.code ++ [l.quantity]) = some lines := by
  induction lines with
  | nil => rfl
  | cons l lines ih =>
    have hfirst : ((l :: lines).flatMap fun l => be16 l.code ++ [l.quantity]) =
        l.code.extractLsb' 8 8 :: l.code.extractLsb' 0 8 :: l.quantity ::
          lines.flatMap fun l => be16 l.code ++ [l.quantity] := rfl
    rw [hfirst, readLines, ih, Option.map_some, join16_be16]

theorem basket_length (lines : List BasketLine) :
    (lines.flatMap fun l => be16 l.code ++ [l.quantity]).length = 3 * lines.length := by
  induction lines with
  | nil => rfl
  | cons l lines ih => simp [ih]; omega

theorem readRequest_bytes (r : StationRequest) (h : r.bytes.length ≤ 255) : readRequest r.bytes = some r := by
  have distinct : ¬ (2 : Byte) = 1 ∧ ¬ (3 : Byte) = 1 ∧ ¬ (3 : Byte) = 2 ∧ ¬ (4 : Byte) = 1 ∧ ¬ (4 : Byte) = 2 ∧
      ¬ (4 : Byte) = 3 ∧ ¬ (5 : Byte) = 1 ∧ ¬ (5 : Byte) = 2 ∧ ¬ (5 : Byte) = 3 ∧ ¬ (5 : Byte) = 4 := by decide
  obtain ⟨h21, h31, h32, h41, h42, h43, h51, h52, h53, h54⟩ := distinct
  cases r with
  | saleOpen image basket =>
    have hcount : (BitVec.ofNat 8 basket.length).toNat = basket.length := by
      simp only [StationRequest.bytes, List.length_append, List.length_cons, basket_length] at h
      rw [BitVec.toNat_ofNat]
      omega
    simp only [StationRequest.bytes, List.cons_append, List.append_assoc, readRequest, if_pos, takeImage_bytes,
      Option.bind_eq_bind, Option.bind_some, basket_length, hcount, readLines_bytes, Option.map_some]
  | reverse image =>
    have himage := takeImage_bytes image []
    rw [List.append_nil] at himage
    simp only [StationRequest.bytes, List.cons_append, List.append_assoc, readRequest, if_neg h21, if_pos, himage,
      Option.bind_eq_bind, Option.bind_some]
  | saleDone n => simp only [StationRequest.bytes, be16, readRequest, if_neg h31, if_neg h32, if_pos, join16_be16]
  | saleTorn n =>
    simp only [StationRequest.bytes, be16, readRequest, if_neg h41, if_neg h42, if_neg h43, if_pos, join16_be16]
  | saleCancel n =>
    simp only [StationRequest.bytes, be16, readRequest, if_neg h51, if_neg h52, if_neg h53, if_neg h54, if_pos,
      join16_be16]

theorem readAnswerKind_body (k : AnswerKind) (h : k.body.length ≤ 255) :
    readAnswerKind k.code k.body = some k := by
  cases k with
  | request r =>
    simp only [AnswerKind.code, AnswerKind.body, readAnswerKind, if_pos, readRequest_bytes r h, Option.map_some]
  | nothing | wait | join | leave => rfl

/-! ### The frame -/

section Frame

variable {a : Answer}

theorem readAnswer_inner (h : a.kind.body.length ≤ 255) : readAnswer a.inner = some a := by
  obtain ⟨address, kind, number, lastSeen⟩ := a
  have hkind := readAnswerKind_body kind h
  cases lastSeen <;> simp [Answer.inner, readAnswer, hkind]

theorem readLaneFrame_frame (h : a.kind.body.length ≤ 255) : readLaneFrame a.frame = .answer a := by
  have hinner : (a.inner ++ be16 (crc16 a.inner)).dropLast.dropLast = a.inner := by
    rw [be16, ← List.singleton_append (l := [BitVec.extractLsb' 0 8 _]), ← List.append_assoc,
      List.dropLast_concat, List.dropLast_concat]
  have hcheck : (195 :: a.inner ++ be16 (crc16 a.inner)).drop
      ((195 :: a.inner ++ be16 (crc16 a.inner)).length - 2) = be16 (crc16 a.inner) := by
    simp
  have hdrop : (195 :: a.inner ++ be16 (crc16 a.inner)).drop 1 = a.inner ++ be16 (crc16 a.inner) := rfl
  unfold readLaneFrame Answer.frame laneFrame
  simp only [hcheck, hdrop, hinner, readAnswer_inner h, ne_eq, not_true_eq_false, if_false]

/-- What the lane has of an answer is complete only with its last byte. -/
theorem laneFrameComplete_part {p q : List Byte} (hb : a.kind.body.length ≤ 255) (h : a.frame = p ++ q) :
    laneFrameComplete p = decide (q = []) := by
  have hlen := congrArg List.length h
  simp only [Answer.frame, laneFrame, Answer.inner, List.length_append, List.length_cons, List.length_nil,
    be16_length] at hlen
  have hq : q = [] ↔ q.length = 0 := List.length_eq_zero_iff.symm
  unfold laneFrameComplete
  split
  next len tail hdrop =>
    have hfield : len = BitVec.ofNat 8 a.kind.body.length := by
      have hsix : p[6]? = some len := by rw [← List.head?_drop, hdrop, List.head?_cons]
      have hsixth : a.frame[6]? = some len := h ▸ (List.getElem?_append_left
        (List.getElem?_eq_some_iff.mp hsix).1).trans hsix
      exact (Option.some.inj hsixth).symm
    rw [hfield, BitVec.toNat_ofNat, decide_eq_decide, hq]
    omega
  next hdrop =>
    have hshort := List.drop_eq_nil_iff.mp hdrop
    exact (decide_eq_false fun he => by have := hq.mp he; omega).symm

/-- A lane that has begun an answer collects it to its last byte. -/
theorem collectAnswer_rest {p q after : List Byte} (hb : a.kind.body.length ≤ 255) (h : a.frame = p ++ q)
    (hp : p ≠ []) (hq : q ≠ []) : collectAnswer p (q ++ after) = (a.frame, true) := by
  induction q generalizing p with
  | nil => exact absurd rfl hq
  | cons b q ih =>
    have hnext : a.frame = p ++ [b] ++ q := by simpa using h
    rw [List.cons_append, collectAnswer, if_neg (fun hnone => hp hnone.1), laneFrameComplete_part hb hnext]
    by_cases hlast : q = []
    · rw [if_pos (decide_eq_true hlast), hnext, hlast, List.append_nil]
    · rw [if_neg (by simpa using hlast)]
      exact ih hnext (by simp) hlast

theorem collectAnswer_before {before rest : List Byte} (h : (195 : Byte) ∉ before) :
    collectAnswer [] (before ++ rest) = collectAnswer [] rest := by
  induction before with
  | nil => rfl
  | cons b before ih =>
    rw [List.mem_cons, not_or] at h
    rw [List.cons_append, collectAnswer, if_pos ⟨rfl, Ne.symm h.1⟩, ih h.2]

theorem collectAnswer_frame {before after : List Byte} (hb : a.kind.body.length ≤ 255)
    (h : (195 : Byte) ∉ before) : collectAnswer [] (before ++ a.frame ++ after) = (a.frame, true) := by
  have hmarker : a.frame = [195] ++ (a.inner ++ be16 (crc16 a.inner)) := rfl
  have hfirst : laneFrameComplete [195] = false :=
    (laneFrameComplete_part hb hmarker).trans (decide_eq_false (by simp [be16]))
  rw [List.append_assoc, collectAnswer_before h]
  nth_rw 1 [hmarker]
  rw [List.append_assoc, List.singleton_append, collectAnswer, if_neg (fun hnone => hnone.2 rfl),
    List.nil_append, hfirst, if_neg Bool.false_ne_true]
  exact collectAnswer_rest hb hmarker (by simp) (by simp [be16])

end Frame

/-- Settles O16. -/
theorem laneAnswerRead : Obligations.LaneAnswerRead := fun _ _ _ hb hbefore =>
  ⟨collectAnswer_frame hb hbefore, readLaneFrame_frame hb⟩

end Sys2Proof.Machine

/-! PROOFS. What a command of the Sale Engine can do outside its own collections: it reports, counts, and gives its
notices to a station (04 R69, R78, R81, R82; 09 R155). -/

namespace Sys2Proof.Machine

open Sys2Proof

/-- The effects of the Sale Engine from `s` on: changes of its own collections that leave the work queue, of the
journal and the totals, reports, and the notices and withdrawals at a station. -/
inductive Effect (s : State) : State → Prop
  | start : Effect s s
  | sale {t : State} {x : SaleEngine} (h : Effect s t) (hx : x.queue = t.sale.queue) :
    Effect s { t with sale := x }
  | totals {t : State} {x : JournalTotals} (h : Effect s t) (hx : x.inbox = t.totals.inbox) :
    Effect s { t with totals := x }
  | report {t : State} (h : Effect s t) (r : Report) : Effect s (t.queueReport r)
  | opened {t : State} (h : Effect s t) (st : StationId) (n : Nat) :
    Effect s (t.setStation st { t.station st with contextFlag := some n })
  | freed {t : State} (h : Effect s t) (st : StationId) : Effect s (t.setStation st (t.station st).freed)
  | withdrawn {t : State} (h : Effect s t) (st : StationId) (n : Nat) : Effect s (t.withdraw st n)

/-- The engine's effects end with the reply to request `n` of the station `st`. -/
def Replied (s : State) (st : StationId) (n : Byte) (t : State) : Prop :=
  ∃ u r, Effect s u ∧ t = u.giveReply st n r

section Effects

variable {s t u : State} {st : StationId} {n : Byte}

theorem Effect.trans (h : Effect s t) (h' : Effect t u) : Effect s u := by
  induction h' with
  | start => exact h
  | sale _ hx ih => exact ih.sale hx
  | totals _ hx ih => exact ih.totals hx
  | report _ r ih => exact ih.report r
  | opened _ st n ih => exact ih.opened st n
  | freed _ st ih => exact ih.freed st
  | withdrawn _ st n ih => exact ih.withdrawn st n

theorem Effect.replied (h : Effect s u) (r : StationReply) : Replied s st n (u.giveReply st n r) := ⟨u, r, h, rfl⟩

theorem Replied.after (h : Effect s t) (h' : Replied t st n u) : Replied s st n u := by
  obtain ⟨v, r, hv, rfl⟩ := h'
  exact (h.trans hv).replied r

theorem Effect.appendRecord (h : Effect s t) (b : RecordBody) : Effect s (t.appendRecord b) := by
  unfold State.appendRecord
  dsimp only
  split
  · refine Effect.report (h.totals ?_) _
    rfl
  · exact h.totals rfl

theorem Effect.mapCard (h : Effect s t) (card : Nat) (f : CardRecord → CardRecord) : Effect s (t.mapCard card f) :=
  h.sale rfl

theorem Effect.mapCredits (h : Effect s t) (f : List CreditOrder → List CreditOrder) :
    Effect s (t.mapCredits f) := h.sale rfl

theorem Effect.removeContext (h : Effect s t) (k : Nat) : Effect s (t.removeContext k) := h.sale rfl

theorem Effect.addContext (h : Effect s t) (c : Context) : Effect s (t.addContext c) := h.sale rfl

theorem Effect.removeDoubt (h : Effect s t) (k : Nat) : Effect s (t.removeDoubt k) := h.sale rfl

theorem Effect.addDoubt (h : Effect s t) (e : DoubtEntry) : Effect s (t.addDoubt e) := h.sale rfl

theorem Effect.setNote (h : Effect s t) (st : StationId) (k : Nat) (how : SaleEnd) :
    Effect s (t.setNote st k how) := h.sale rfl

theorem Effect.deliverOrders (h : Effect s t) (d : SaleData) (how : SaleEnd) (j : Nat) :
    Effect s (t.deliverOrders d how j) := by
  unfold State.deliverOrders
  dsimp only
  split
  · exact h.mapCredits _
  · exact (h.mapCredits _).report _

theorem Effect.handLoss (h : Effect s t) (l : Loss) : Effect s (t.handLoss l) := h.sale rfl

theorem Effect.contextEnded (h : Effect s t) (st : StationId) : Effect s (t.contextEnded st) := by
  have hfreed := h.freed st
  simp only [State.contextEnded]
  split
  next hl =>
    have hrecord : (t.station st).freed =
        { t.station st with contextFlag := none, state := .leaving, leaveRequested := false } :=
      if_pos (decide_eq_true hl)
    rw [hrecord] at hfreed
    exact hfreed.report _
  next hl =>
    have hrecord : (t.station st).freed = { t.station st with contextFlag := none } :=
      if_neg fun h => hl (of_decide_eq_true h)
    rw [hrecord] at hfreed
    exact hfreed

theorem Effect.contextOpened (h : Effect s t) (st : StationId) (k : Nat) : Effect s (t.contextOpened st k) := by
  have hopened := h.opened st k
  unfold State.contextOpened
  dsimp only
  split
  · exact hopened.handLoss _
  · exact hopened.handLoss _
  · exact hopened.handLoss _
  · exact hopened

theorem Effect.commit (h : Effect s t) (c : Context) : Effect s (t.commit c) :=
  (((((h.appendRecord _).mapCard _ _).deliverOrders _ _ _).removeContext _).setNote _ _ _).contextEnded _

theorem Effect.voidContext (h : Effect s t) (c : Context) : Effect s (t.voidContext c) := by
  have hmapped := (h.mapCredits (returnOrders c.data.riding)).mapCard c.data.card (CardRecord.setInUse none)
  unfold State.voidContext
  dsimp only
  split
  · exact (((hmapped.withdrawn _ _).removeContext _).setNote _ _ _).contextEnded _
  · exact ((hmapped.removeContext _).setNote _ _ _).contextEnded _

theorem Effect.closeEntry (h : Effect s t) (e : DoubtEntry) (how : SaleEnd) (way : DoubtWay) (j : Nat) :
    Effect s (t.closeEntry e how way j) :=
  (((h.removeDoubt _).mapCard _ _).setNote _ _ _).report _

theorem Effect.endHappened (h : Effect s t) (e : DoubtEntry) (way : DoubtWay) : Effect s (t.endHappened e way) :=
  (((h.appendRecord _).mapCard _ _).deliverOrders _ _ _).closeEntry _ _ _ _

theorem Effect.endNotHappened (h : Effect s t) (e : DoubtEntry) (way : DoubtWay) :
    Effect s (t.endNotHappened e way) :=
  ((h.appendRecord _).mapCredits _).closeEntry _ _ _ _

theorem Effect.endUnresolved (h : Effect s t) (e : DoubtEntry) (way : DoubtWay) :
    Effect s (t.endUnresolved e way) :=
  ((h.appendRecord _).mapCredits _).closeEntry _ _ _ _

theorem Effect.pushOut (h : Effect s t) : Effect s t.pushOut := by
  unfold State.pushOut
  split
  · split
    · exact h.endUnresolved _ _
    · exact h
  · exact h

theorem Effect.moveToDoubt (h : Effect s t) (c : Context) (cause : DoubtCause) :
    Effect s (t.moveToDoubt c cause) :=
  (((((h.pushOut.addDoubt _).mapCard _ _).withdrawn _ _).removeContext _).report _).contextEnded _

theorem Effect.voidAll (h : Effect s t) (cs : List Context) : Effect s (t.voidAll cs) := by
  unfold State.voidAll
  induction cs generalizing t with
  | nil => exact h
  | cons c cs ih => exact ih (h.voidContext c)

theorem Effect.moveAll (h : Effect s t) (cs : List Context) : Effect s (t.moveAll cs) := by
  unfold State.moveAll
  induction cs generalizing t with
  | nil => exact h
  | cons c cs ih => exact ih (h.moveToDoubt c .warmStart)

/-- The engine's part of a warm start, once its work queue is empty. -/
theorem warmEngine_effect (s : State) : Effect { s with sale := { s.sale with queue := [] } } s.warmEngine :=
  (Effect.start.voidAll _).moveAll _

theorem Effect.takeLoss (h : Effect s t) (c : Context) (cause : LossCause) : Effect s (t.takeLoss c cause) := by
  have hvoid := h.voidContext c
  have hmove := h.moveToDoubt c .stationLost
  unfold State.takeLoss
  split
  · split
    · exact hvoid
    · exact h
  · split
    · exact hvoid
    · exact hmove
  · split
    · exact hvoid
    · exact hmove

end Effects

/-! ### The completions and the check order -/

section Requests

variable (s : State) (st : StationId) (n : Byte)

theorem done_effect (k : Nat) : Effect s (s.done st k).1 := by
  unfold State.done
  split
  · split
    · exact .start
    · exact Effect.start.commit _
  · exact Effect.start.endHappened _ _
  · exact .start
  · exact .start

theorem torn_effect (k : Nat) : Effect s (s.torn st k).1 := by
  unfold State.torn
  split
  · split
    · exact Effect.start.voidContext _
    · exact Effect.start.moveToDoubt _ _
  · exact .start
  · exact .start
  · exact .start

theorem cancelled_effect (k : Nat) : Effect s (s.cancelled st k).1 := by
  unfold State.cancelled
  split
  · exact Effect.start.voidContext _
  · exact Effect.start.endNotHappened _ _
  · exact .start
  · exact .start

theorem complete_replied {table : State → State × StationReply} (h : Effect s (table s).1) :
    Replied s st n (s.complete st n table) := by
  unfold State.complete
  split
  · exact Effect.start.replied _
  · exact h.replied _

theorem step10_replied (now : Consulted) (m : MetCard) (sale : Priced) (reversed : Option Nat) :
    Replied s st n (s.step10 st n now m sale reversed) :=
  ((((Effect.start.addContext _).mapCredits _).mapCard _ _).contextOpened _ _).replied _

theorem priceAndOpen_replied (now : Consulted) (m : MetCard) (p : Presented) :
    Replied s st n (s.priceAndOpen st n now m p) := by
  unfold State.priceAndOpen
  split
  · exact Effect.start.replied _
  · split
    · exact Effect.start.replied _
    · exact step10_replied s st n ..

theorem step6_effect (card : Nat) (p : PurseSlot) : Effect s (s.step6 st card p).1 := by
  unfold State.step6
  split
  · exact Effect.start.sale rfl
  · dsimp only
    split
    · exact Effect.start.mapCard _ _
    · exact (Effect.start.mapCard _ _).report _

theorem step7_effect (card : Nat) (image : CardImage) (q : Seq) : Effect s (s.step7 st card image q).1 := by
  unfold State.step7
  split
  · exact .start
  · split
    · exact Effect.start.endHappened _ _
    · exact Effect.start.endNotHappened _ _
    · exact Effect.start.endUnresolved _ _
    · exact Effect.start.report _

theorem pursePath_replied (now : Consulted) (m : MetCard) (image : CardImage) (p : Presented) :
    Replied s st n (s.pursePath st n now m image p) := by
  have h6 := step6_effect s st m.card m.slot
  unfold State.pursePath
  split
  next u r h =>
    rw [h] at h6
    exact h6.replied _
  next u h =>
    rw [h] at h6
    have h7 := step7_effect u st m.card image m.slot.sequence
    split
    next v r h =>
      rw [h] at h7
      exact (h6.trans h7).replied _
    next v h =>
      rw [h] at h7
      exact (priceAndOpen_replied v st n now m p).after (h6.trans h7)

theorem cashPath_replied (now : Consulted) (card : Nat) (kind : CardKind) (group : Nat) (p : Presented) :
    Replied s st n (s.cashPath st n now card kind group p) := by
  unfold State.cashPath
  split
  · exact Effect.start.replied _
  · split
    · exact Effect.start.replied _
    · split
      · exact Effect.start.replied _
      · split
        · exact Effect.start.replied _
        · exact (Effect.start.appendRecord _).replied _

theorem sortCard_replied (now : Consulted) (image : CardImage) (kind : CardKind) (p : Presented) :
    Replied s st n (s.sortCard st n now image kind p) := by
  unfold State.sortCard
  dsimp only
  split
  · exact Effect.start.replied _
  · exact Effect.start.replied _
  · exact cashPath_replied s st n ..
  · split
    · exact Effect.start.replied _
    · split
      · exact Effect.start.replied _
      · exact pursePath_replied s st n ..

theorem present_replied (image : CardImage) (p : Presented) : Replied s st n (s.present st n image p) := by
  unfold State.present
  split
  · exact Effect.start.replied _
  · split
    · exact Effect.start.replied _
    · split
      · exact Effect.start.replied _
      · exact sortCard_replied s st n ..

end Requests

end Sys2Proof.Machine

/-! PROOFS. The law of one station's record on its lane (09 R146, R160; 10 R165, R166, R169), and that each change
of a record keeps it. -/

namespace Sys2Proof.Machine

open Sys2Proof

/-- The law of a station's record on a lane with that wait limit, which stands OFF or not. -/
structure StationRecord.Lawful (limit : Nat) (off : Prop) (r : StationRecord) : Prop where
  within : r.Within
  waits : r.waits < limit
  off : off → r.state = .absent

/-- A lane is within its law when its settings are and each of its records is lawful. -/
theorem lane_within_iff {c : LaneControl} : c.Within ↔
    (1 ≤ c.settings.timeout ∧ c.settings.timeout ≤ 15) ∧ (1 ≤ c.settings.waitLimit ∧ c.settings.waitLimit ≤ 1000) ∧
    (c.mode = .off → c.exchange = none) ∧
    ∀ a, (c.stations.get a).Lawful c.settings.waitLimit (c.mode = .off) :=
  ⟨fun h => ⟨h.timeout, h.waitLimit, fun ho => (h.off ho).1, fun a =>
      ⟨h.stations a, h.waits a, fun ho => (h.off ho).2 a⟩⟩,
    fun ⟨ht, hw, he, hs⟩ => ⟨ht, hw, fun a => (hs a).within, fun a => (hs a).waits, fun ho =>
      ⟨he ho, fun a => (hs a).off ho⟩⟩⟩

namespace StationRecord

section Records

variable {r y : StationRecord} {limit : Nat} {off : Prop}

/-- A GOOD, DOUBTFUL or LEAVING record has its ranges alone to keep. -/
theorem lawful_served (hs : y.state = .good ∨ y.state = .doubtful ∨ y.state = .leaving) (hoff : ¬ off)
    (hlimit : limit ≤ 1000) (hscore : y.score ≤ 255) (hcalls : y.cleanCalls ≤ 32) (hwaits : y.waits < limit)
    (hsilent : y.silent ≤ 8) : y.Lawful limit off := by
  refine ⟨⟨hscore, hcalls, by omega, hsilent, ?_, ?_, ?_, ?_⟩, hwaits, fun h => absurd h hoff⟩ <;>
    rcases hs with h | h | h <;> simp [h]

/-- A DROPPED or HELD record stands at score 255. -/
theorem lawful_failed (hs : y.state = .dropped ∨ y.state = .held) (hoff : ¬ off) (hlimit : 1 ≤ limit)
    (hscore : y.score = 255) (hcalls : y.cleanCalls ≤ 32) (hwaits : y.waits = 0) (hleave : y.leaveRequested = false)
    (hsilent : y.silent ≤ 8) : y.Lawful limit off := by
  refine ⟨⟨by omega, hcalls, by omega, hsilent, ?_, ?_, ?_, fun _ => ⟨hscore, hwaits, hleave⟩⟩, by omega,
    fun h => absurd h hoff⟩ <;> rcases hs with h | h <;> simp [h]

/-- A PENDING record has no role and its counts at 0. -/
theorem lawful_pending (hs : y.state = .pending) (hoff : ¬ off) (hlimit : 1 ≤ limit)
    (h : y.role = none ∧ y.score = 0 ∧ y.cleanCalls = 0 ∧ y.waits = 0 ∧ y.errors = .empty ∧
      y.leaveRequested = false) (hsilent : y.silent ≤ 8) : y.Lawful limit off := by
  have ⟨_, hscore, hcalls, hwaits, _⟩ := h
  refine ⟨⟨by omega, by omega, by omega, hsilent, fun _ => h, ?_, ?_, ?_⟩, by omega, fun h => absurd h hoff⟩ <;>
    simp [hs]

theorem Lawful.not_off (h : r.Lawful limit off) (hs : r.state ≠ .absent) : ¬ off := mt h.off hs

theorem Lawful.flag (h : r.Lawful limit off) (x : Option Nat) :
    ({ r with contextFlag := x } : StationRecord).Lawful limit off :=
  have w := h.within
  ⟨⟨w.score, w.calls, w.waits, w.silent, w.unserved, w.absent, w.orphaned, w.failed⟩, h.waits, h.off⟩

theorem Lawful.errorsCleared (h : r.Lawful limit off) :
    ({ r with errors := .empty } : StationRecord).Lawful limit off := by
  have w := h.within
  refine ⟨⟨w.score, w.calls, w.waits, w.silent, fun hs => ?_, w.absent, w.orphaned, w.failed⟩, h.waits, h.off⟩
  obtain ⟨hrole, hscore, hcalls, hwaits, -, hleave⟩ := w.unserved hs
  exact ⟨hrole, hscore, hcalls, hwaits, rfl, hleave⟩

theorem Lawful.freed (h : r.Lawful limit off) : r.freed.Lawful limit off := by
  have hl := h.flag none
  unfold StationRecord.freed
  split
  next hleaves =>
    obtain ⟨-, hstate⟩ : r.leaveRequested = true ∧ (r.state = .good ∨ r.state = .doubtful) :=
      of_decide_eq_true hleaves
    have w := h.within
    refine ⟨⟨w.score, w.calls, w.waits, w.silent, ?_, ?_, ?_, ?_⟩, h.waits, fun ho => ?_⟩
    · simp
    · simp
    · simp
    · simp
    · rw [h.off ho] at hstate
      simp at hstate
  · exact hl

/-- The slot emptied and the outstanding request gone, or what stays of it. -/
theorem Lawful.emptied (h : r.Lawful limit off) {o : Option Outstanding} (ho : ∀ x ∈ o, x ∈ r.outstanding) :
    ({ r with slot := none, outstanding := o } : StationRecord).Lawful limit off := by
  have w := h.within
  refine ⟨⟨w.score, w.calls, w.waits, w.silent, w.unserved, fun hs => ?_, fun hs x hx => ?_, w.failed⟩,
    h.waits, h.off⟩
  · obtain ⟨-, hrest⟩ := w.absent hs
    exact ⟨rfl, hrest⟩
  · exact w.orphaned hs x (ho x hx)

theorem Lawful.withdraw (h : r.Lawful limit off) (n : Nat) : (r.withdraw n).Lawful limit off := by
  unfold StationRecord.withdraw
  split
  · exact h.emptied nofun
  · exact h

theorem Lawful.confirm (h : r.Lawful limit off) (seen : Option Byte) : (r.confirm seen).Lawful limit off := by
  unfold StationRecord.confirm
  split
  · split
    · exact h.emptied nofun
    · exact h
  · exact h

/-- What is not of the score, the counts, the role or the state may change freely on a record that is not
ABSENT. -/
theorem Lawful.requests (h : r.Lawful limit off) (hs : r.state ≠ .absent) (slot : Option SlotReply)
    (busy last : Option Byte) (o : Option Outstanding) :
    ({ r with slot := slot, busy := busy, lastRequest := last, outstanding := o } : StationRecord).Lawful limit
      off :=
  have w := h.within
  ⟨⟨w.score, w.calls, w.waits, w.silent, w.unserved, fun ha => absurd ha hs, fun ha => absurd ha hs, w.failed⟩,
    h.waits, h.off⟩

theorem Lawful.takeReply (h : r.Lawful limit off) (n : Byte) (reply : StationReply) :
    (r.takeReply n reply).Lawful limit off := by
  have w := h.within
  unfold StationRecord.takeReply
  split
  · exact h
  next o ho =>
    split
    · refine ⟨⟨w.score, w.calls, w.waits, w.silent, w.unserved, w.absent, fun _ _ hx => ?_, w.failed⟩, h.waits,
        h.off⟩
      cases hx
    next horphan =>
      have hs : r.state ≠ .absent := fun ha => horphan (w.orphaned ha o ho)
      split
      · exact h.requests hs (some ⟨n, reply, false⟩) r.busy r.lastRequest r.outstanding
      · exact h

theorem Lawful.polled (h : r.Lawful limit off) : r.polled.Lawful limit off := by
  have w := h.within
  refine ⟨⟨w.score, w.calls, w.waits, w.silent, w.unserved, fun hs => ?_, w.orphaned, w.failed⟩, h.waits, h.off⟩
  obtain ⟨hslot, -, hlast, hsilent⟩ := w.absent hs
  exact ⟨by simp [StationRecord.polled, hslot], rfl, hlast, hsilent⟩

/-- The values of R146, with what stays outstanding orphaned. -/
theorem lawful_absent {o : Option Outstanding} {x : Option Nat} (ho : ∀ y ∈ o, y.orphaned = true)
    (hlimit : 1 ≤ limit) :
    ({ StationRecord.initial with outstanding := o, contextFlag := x } : StationRecord).Lawful limit off :=
  have w := station_within_initial
  ⟨⟨w.score, w.calls, w.waits, w.silent, w.unserved, w.absent, fun _ => ho, by simp [StationRecord.initial]⟩,
    hlimit, fun _ => rfl⟩

theorem madeAbsent_lawful (r : StationRecord) (hlimit : 1 ≤ limit) : r.madeAbsent.Lawful limit off := by
  refine lawful_absent (fun o ho => ?_) hlimit
  obtain ⟨_, -, rfl⟩ := Option.map_eq_some_iff.mp ho
  rfl

theorem departed_lawful (r : StationRecord) (why : GoneCause) (hlimit : 1 ≤ limit) :
    (r.departed why).Lawful limit off := by
  cases why with
  | silence => exact madeAbsent_lawful r hlimit
  | leave => exact lawful_absent (fun o ho => by simpa using (Option.filter_eq_some_iff.mp ho).2) hlimit

theorem Lawful.warmed (h : r.Lawful limit off) (hlimit : 1 ≤ limit ∧ limit ≤ 1000) : r.warmed.Lawful limit off := by
  have w := h.within
  obtain ⟨hone, hmax⟩ := hlimit
  have hsilent := w.silent
  unfold StationRecord.warmed
  dsimp only
  cases hs : r.state with
  | good | doubtful | dropped | held =>
    exact lawful_served (.inl rfl) (h.not_off (by simp [hs])) hmax (Nat.zero_le _) (Nat.zero_le _) hone hsilent
  | leaving =>
    exact lawful_served (.inr (.inr rfl)) (h.not_off (by simp [hs])) hmax (Nat.zero_le _) (Nat.zero_le _) hone
      hsilent
  | pending =>
    obtain ⟨hrole, hscore, hcalls, hwaits, herrors, -⟩ := w.unserved (.inr hs)
    exact lawful_pending rfl (h.not_off (by simp [hs])) hone ⟨hrole, hscore, hcalls, hwaits, herrors, rfl⟩
      (Nat.zero_le _)
  | absent =>
    obtain ⟨-, -, -, hquiet⟩ := w.absent hs
    obtain ⟨hrole, hscore, hcalls, hwaits, herrors, -⟩ := w.unserved (.inl hs)
    exact ⟨⟨w.score, w.calls, w.waits, w.silent, fun _ => ⟨hrole, hscore, hcalls, hwaits, herrors, rfl⟩,
      fun _ => ⟨rfl, rfl, rfl, hquiet⟩, fun _ => nofun, by simp⟩, h.waits, fun _ => rfl⟩

end Records

/-! ### The end of an exchange (10 R163 to R170) -/

section Exchange

variable {r : StationRecord} {off : Prop} {settings : LaneSettings} {st : StationId} {now : Time}

theorem dropDeed_lawful (hoff : ¬ off) (hlimit : 1 ≤ settings.waitLimit) (hsilent : r.silent ≤ 8)
    (mode : RecoveryMode) : (r.dropDeed st now mode).record.Lawful settings.waitLimit off := by
  unfold StationRecord.dropDeed
  dsimp only
  split
  · exact lawful_failed (.inr rfl) hoff hlimit rfl (Nat.zero_le _) rfl rfl hsilent
  · exact lawful_failed (.inl rfl) hoff hlimit rfl (Nat.zero_le _) rfl rfl hsilent

/-- The states of a station polled in the round. -/
def Serves (r : StationRecord) : Prop := r.state = .good ∨ r.state = .doubtful ∨ r.state = .leaving

theorem Serves.not_absent (h : r.Serves) : r.state ≠ .absent := by
  rcases h with h | h | h <;> simp [h]

theorem Lawful.failDeed (h : r.Lawful settings.waitLimit off) (hs : r.Serves)
    (hlimit : 1 ≤ settings.waitLimit ∧ settings.waitLimit ≤ 1000) (k : FailureKind) :
    (r.failDeed st now settings k).record.Lawful settings.waitLimit off := by
  have w := h.within
  obtain ⟨hone, hmax⟩ := hlimit
  have hoff := h.not_off hs.not_absent
  unfold StationRecord.failDeed
  dsimp only
  split
  · refine dropDeed_lawful hoff hone ?_ _
    exact w.silent
  next hroom =>
    have hscore : r.score + 8 ≤ 255 := Nat.not_lt.mp hroom
    split
    · exact lawful_served (.inr (.inl rfl)) hoff hmax hscore w.calls hone w.silent
    · exact lawful_served hs hoff hmax hscore w.calls hone w.silent

theorem Lawful.passed (h : r.Lawful settings.waitLimit off) (hs : r.Serves)
    (hlimit : settings.waitLimit ≤ 1000) {n : Nat} (hn : n < settings.waitLimit) :
    (r.passed n).Lawful settings.waitLimit off := by
  have w := h.within
  refine lawful_served ?_ (h.not_off hs.not_absent) hlimit ((Nat.sub_le _ _).trans w.score) w.calls hn w.silent
  unfold StationRecord.passed
  dsimp only
  split
  · exact .inl rfl
  · exact hs

theorem Lawful.scoreDeed (h : r.Lawful settings.waitLimit off) (hs : r.Serves)
    (hlimit : 1 ≤ settings.waitLimit ∧ settings.waitLimit ≤ 1000) (a : Answer) :
    (r.scoreDeed st now settings a).record.Lawful settings.waitLimit off := by
  unfold StationRecord.scoreDeed
  split
  · split
    · exact h.failDeed hs hlimit .waitLimit
    next hn => exact h.passed hs hlimit.2 (Nat.not_le.mp hn)
  · exact h.passed hs hlimit.2 hlimit.1

theorem Lawful.callDeed (h : r.Lawful settings.waitLimit off) (hs : r.state = .dropped)
    (hlimit : 1 ≤ settings.waitLimit ∧ settings.waitLimit ≤ 1000) (mode : RecoveryMode) :
    (r.callDeed st now mode).record.Lawful settings.waitLimit off := by
  have w := h.within
  obtain ⟨hone, hmax⟩ := hlimit
  obtain ⟨hscore, hwaits, hleave⟩ := w.failed (.inl hs)
  have hoff : ¬ off := h.not_off (by simp [hs])
  have hcalls : min (r.cleanCalls + 1) 32 ≤ 32 := min_le_right _ _
  unfold StationRecord.callDeed
  dsimp only
  split
  · split
    · exact lawful_served (.inl rfl) hoff hmax (Nat.zero_le _) (Nat.zero_le _) hone w.silent
    · exact lawful_failed (.inr rfl) hoff hone hscore hcalls hwaits hleave w.silent
    · exact lawful_failed (.inl hs) hoff hone hscore hcalls hwaits hleave w.silent
  · exact lawful_failed (.inl hs) hoff hone hscore hcalls hwaits hleave w.silent

theorem Lawful.admitDeed (h : r.Lawful settings.waitLimit off) (hs : r.state ≠ .absent) (n : Byte)
    (q : StationRequest) : (r.admitDeed st n q).record.Lawful settings.waitLimit off := by
  unfold StationRecord.admitDeed
  split_ifs
  · exact h
  · exact h.requests hs r.slot (some n) r.lastRequest r.outstanding
  · exact h.requests hs (some ⟨n, .notServing, false⟩) r.busy (some n) (some ⟨n, false⟩)
  · exact h.requests hs r.slot r.busy (some n) (some ⟨n, false⟩)

theorem Lawful.leaveDeed (h : r.Lawful settings.waitLimit off) (hs : r.Serves)
    (hlimit : settings.waitLimit ≤ 1000) : (r.leaveDeed st).record.Lawful settings.waitLimit off := by
  have w := h.within
  have hoff := h.not_off hs.not_absent
  unfold StationRecord.leaveDeed
  split
  · exact lawful_served (.inr (.inr rfl)) hoff hlimit w.score w.calls h.waits w.silent
  · exact lawful_served hs hoff hlimit w.score w.calls h.waits w.silent

/-- A PENDING station that is heard. -/
theorem Lawful.heard (h : r.Lawful settings.waitLimit off) (hs : r.state = .pending)
    (hlimit : 1 ≤ settings.waitLimit) :
    ({ r with silent := 0 } : StationRecord).Lawful settings.waitLimit off :=
  lawful_pending hs (h.not_off (by simp [hs])) hlimit (h.within.unserved (.inr hs)) (Nat.zero_le _)

theorem Lawful.answerDeed (h : r.Lawful settings.waitLimit off) (hoff : ¬ off)
    (hlimit : 1 ≤ settings.waitLimit ∧ settings.waitLimit ≤ 1000) (k : PollKind) (a : Answer) :
    (r.answerDeed st k a).record.Lawful settings.waitLimit off := by
  have w := h.within
  unfold StationRecord.answerDeed
  split
  next hs =>
    split
    · exact lawful_pending rfl hoff hlimit.1 (w.unserved (.inl hs)) (Nat.zero_le _)
    · exact h
  next hs =>
    have hheard := h.heard hs hlimit.1
    split
    · exact hheard.admitDeed (by simp [hs]) ..
    · exact departed_lawful _ .leave hlimit.1
    · exact hheard
  next hs =>
    split
    · exact h.admitDeed (by simp [hs]) ..
    · exact h.leaveDeed (.inl hs) hlimit.2
    · exact h
  next hs =>
    split
    · exact h.admitDeed (by simp [hs]) ..
    · exact h.leaveDeed (.inr (.inl hs)) hlimit.2
    · exact h
  next hs =>
    split
    · exact h.admitDeed (by simp [hs]) ..
    · exact h
  · exact h
  · exact h

@[simp] theorem confirm_state (r : StationRecord) (seen : Option Byte) : (r.confirm seen).state = r.state := by
  unfold StationRecord.confirm
  split
  · split <;> rfl
  · rfl

theorem admitDeed_state (n : Byte) (q : StationRequest) : (r.admitDeed st n q).record.state = r.state := by
  unfold StationRecord.admitDeed
  split_ifs <;> rfl

/-- A served station stays served through its answer, and a DROPPED one DROPPED. -/
theorem answerDeed_serves (hs : r.Serves) (k : PollKind) (a : Answer) : (r.answerDeed st k a).record.Serves := by
  have hleave : (r.leaveDeed st).record.Serves := by
    unfold StationRecord.leaveDeed
    split
    · exact .inr (.inr rfl)
    · exact hs
  have hadmit (n : Byte) (q : StationRequest) : (r.admitDeed st n q).record.Serves := by
    unfold Serves
    rw [admitDeed_state]
    exact hs
  rcases hs with h | h | h <;> simp only [StationRecord.answerDeed, h] <;> split
  · exact hadmit ..
  · exact hleave
  · exact .inl h
  · exact hadmit ..
  · exact hleave
  · exact .inr (.inl h)
  · exact hadmit ..
  · exact .inr (.inr h)

theorem answerDeed_dropped (hs : r.state = .dropped) (k : PollKind) (a : Answer) :
    (r.answerDeed st k a).record = r := by
  simp only [StationRecord.answerDeed, hs]

theorem Lawful.silentDeed (h : r.Lawful settings.waitLimit off) (hs : r.state = .pending)
    (hlimit : 1 ≤ settings.waitLimit) : (r.silentDeed st).record.Lawful settings.waitLimit off := by
  unfold StationRecord.silentDeed
  split
  · exact madeAbsent_lawful r hlimit
  next hn =>
    exact lawful_pending hs (h.not_off (by simp [hs])) hlimit (h.within.unserved (.inr hs))
      (Nat.le_of_lt (Nat.not_le.mp hn))

theorem Lawful.endDeed (h : r.Lawful settings.waitLimit off) (hoff : ¬ off)
    (hlimit : 1 ≤ settings.waitLimit ∧ settings.waitLimit ≤ 1000) (k : PollKind) (e : ExchangeEnd) :
    (r.endDeed st now settings k e).record.Lawful settings.waitLimit off := by
  have answered (a : Answer) := (h.confirm a.lastSeen).answerDeed (st := st) hoff hlimit k a
  have scored (hs : r.Serves) (a : Answer) :=
    (answered a).scoreDeed (st := st) (now := now) (answerDeed_serves (by simpa [Serves] using hs) k a) hlimit a
  unfold StationRecord.endDeed
  split
  next a =>
    split
    next hs => exact scored (.inl hs) a
    next hs => exact scored (.inr (.inl hs)) a
    next hs => exact scored (.inr (.inr hs)) a
    next hs =>
      refine (answered a).callDeed ?_ hlimit _
      rw [answerDeed_dropped (by simpa using hs)]
      simpa using hs
    · exact answered a
    · exact answered a
    · exact h
  next kind =>
    split
    next hs => exact h.failDeed (.inl hs) hlimit kind
    next hs => exact h.failDeed (.inr (.inl hs)) hlimit kind
    next hs => exact h.failDeed (.inr (.inr hs)) hlimit kind
    next hs =>
      obtain ⟨hscore, hwaits, hleave⟩ := h.within.failed (.inl hs)
      exact lawful_failed (.inl hs) hoff hlimit.1 hscore (Nat.zero_le _) hwaits hleave h.within.silent
    next hs => exact h.silentDeed hs hlimit.1
    · exact h
    · exact h

end Exchange

end StationRecord

end Sys2Proof.Machine

/-! PROOFS. The laws of the single blocks - the office line, the decoder, the Tariff Unit, the Hall Clock and the lanes
- and the queue of the waiting commands, kept by each operation. -/

namespace Sys2Proof.Machine

open Sys2Proof

/-- `t` keeps the limits of the blocks of `s`, and its waiting commands. -/
structure State.Holds (s t : State) : Prop where
  pending : t.pending = s.pending
  office : s.office.Within → t.office.Within
  decoder : s.decoder.Ordered → t.decoder.Ordered
  tariff : s.tariff.Within → t.tariff.Within
  clock : s.clock.Within → t.clock.Within
  lanes : s.LanesWithin → t.LanesWithin

/-- `t` keeps besides what is held of the period. -/
structure State.Keeps (s t : State) : Prop extends s.Holds t where
  period : s.PeriodCurrent → t.PeriodCurrent

section Operations

variable {s t u : State}

theorem State.Holds.trans (h : s.Holds t) (h' : t.Holds u) : s.Holds u :=
  ⟨h'.pending.trans h.pending, h'.office ∘ h.office, h'.decoder ∘ h.decoder, h'.tariff ∘ h.tariff,
    h'.clock ∘ h.clock, h'.lanes ∘ h.lanes⟩

theorem State.Keeps.refl (s : State) : s.Keeps s := ⟨⟨rfl, id, id, id, id, id⟩, id⟩

theorem State.Keeps.trans (h : s.Keeps t) (h' : t.Keeps u) : s.Keeps u :=
  ⟨h.toHolds.trans h'.toHolds, h'.period ∘ h.period⟩

/-! ### One block changed -/

theorem keeps_sale (s : State) (x : SaleEngine) : s.Keeps { s with sale := x } :=
  ⟨⟨rfl, id, id, id, id, id⟩, id⟩

theorem keeps_totals (s : State) (x : JournalTotals) : s.Keeps { s with totals := x } :=
  ⟨⟨rfl, id, id, id, id, id⟩, id⟩

theorem keeps_office {x : OfficeLink} (h : s.office.Within → x.Within) : s.Keeps { s with office := x } :=
  ⟨⟨rfl, h, id, id, id, id⟩, id⟩

theorem keeps_decoder {x : Decoder} (h : s.decoder.Ordered → x.Ordered) : s.Keeps { s with decoder := x } :=
  ⟨⟨rfl, id, h, id, id, id⟩, id⟩

theorem keeps_tariff {x : TariffUnit} (h : s.tariff.Within → x.Within) : s.Keeps { s with tariff := x } :=
  ⟨⟨rfl, id, id, h, id, id⟩, id⟩

theorem keeps_hall {x : HallControl} (h : ({ s with hall := x } : State).started = true → s.started = true) :
    s.Keeps { s with hall := x } :=
  ⟨⟨rfl, id, id, id, id, id⟩, fun hp hx => hp (h hx)⟩

theorem holds_clock {x : HallClock} (h : s.clock.Within → x.Within) : s.Holds { s with clock := x } :=
  ⟨rfl, id, id, id, h, id⟩

/-- A change of the clock that leaves its time, its schedule and what is held of the period. -/
theorem keeps_clock {x : HallClock} (h : s.clock.Within → x.Within)
    (hsame : x.day = s.clock.day ∧ x.minute = s.clock.minute ∧ x.schedule = s.clock.schedule ∧
      x.stamp = s.clock.stamp ∧ x.kind = s.clock.kind) : s.Keeps { s with clock := x } := by
  refine ⟨holds_clock h, fun hp hx => ?_⟩
  obtain ⟨hday, hminute, hschedule, hstamp, hkind⟩ := hsame
  have hcurrent := hp hx
  rwa [← hday, ← hminute, ← hschedule, ← hstamp, ← hkind] at hcurrent

theorem keeps_setLane {l : Lane} {x : LaneControl} (h : (s.lane l).Within → x.Within) : s.Keeps (s.setLane l x) := by
  cases l with
  | a => exact ⟨⟨rfl, id, id, id, id, fun hl => ⟨h hl.1, hl.2⟩⟩, id⟩
  | b => exact ⟨⟨rfl, id, id, id, id, fun hl => ⟨hl.1, h hl.2⟩⟩, id⟩

/-- A change of a lane that leaves its settings, its mode and its stations, and starts no exchange in OFF. -/
theorem keeps_lane {l : Lane} {x : LaneControl} (hset : x.settings = (s.lane l).settings)
    (hstations : x.stations = (s.lane l).stations)
    (hoff : x.mode = .off → (s.lane l).mode = .off ∧ ((s.lane l).exchange = none → x.exchange = none)) :
    s.Keeps (s.setLane l x) := by
  refine keeps_setLane fun h => ?_
  refine ⟨hset ▸ h.timeout, hset ▸ h.waitLimit, hstations ▸ h.stations, hset ▸ hstations ▸ h.waits, fun ho => ?_⟩
  obtain ⟨hmode, hx⟩ := hoff ho
  obtain ⟨hidle, habsent⟩ := h.off hmode
  exact ⟨hx hidle, hstations ▸ habsent⟩

/-! ### One station's record changed -/

/-- The laws of a lane whose records have changed. -/
theorem lane_within_records {c : LaneControl} (h : c.Within) {t : Eight StationRecord}
    (ht : ∀ a, (t.get a).Lawful c.settings.waitLimit (c.mode = .off)) :
    ({ c with stations := t } : LaneControl).Within := by
  obtain ⟨htimeout, hwait, hx, -⟩ := lane_within_iff.mp h
  exact lane_within_iff.mpr ⟨htimeout, hwait, hx, ht⟩

theorem lane_within_set {c : LaneControl} (h : c.Within) {a : Fin 8} {r : StationRecord}
    (hr : r.Lawful c.settings.waitLimit (c.mode = .off)) :
    ({ c with stations := c.stations.set a r } : LaneControl).Within := by
  obtain ⟨-, -, -, hs⟩ := lane_within_iff.mp h
  refine lane_within_records h fun b => ?_
  by_cases hb : b = a
  · subst hb
    rw [Eight.get_set_self]
    exact hr
  · rw [Eight.get_set_other _ hb]
    exact hs b

/-- The law of the record of a station on its lane. -/
def State.RecordLawful (s : State) (st : StationId) (r : StationRecord) : Prop :=
  r.Lawful (s.lane st.lane).settings.waitLimit ((s.lane st.lane).mode = .off)

theorem recordLawful_station {st : StationId} (h : (s.lane st.lane).Within) : s.RecordLawful st (s.station st) := by
  obtain ⟨-, -, -, hs⟩ := lane_within_iff.mp h
  exact hs st.addr

theorem keeps_setStation {st : StationId} {r : StationRecord}
    (h : (s.lane st.lane).Within → s.RecordLawful st (s.station st) → s.RecordLawful st r) :
    s.Keeps (s.setStation st r) :=
  keeps_setLane fun hl => lane_within_set hl (h hl (recordLawful_station hl))

/-! ### The operations the blocks share -/

theorem office_queueReport {o : OfficeLink} (h : o.Within) (r : Report) : (o.queueReport r).Within := by
  refine ⟨?_, ?_, ?_, queueReport_bounded o r h.reports⟩
  · rw [queueReport_tags]; exact h.tags
  · rw [queueReport_tags]; exact h.distinct
  · rw [queueReport_refusals]; exact h.refusals

theorem office_reported {o : OfficeLink} (h : o.Within) (rs : List Report) : (o.reported rs).Within := by
  induction rs generalizing o with
  | nil => exact h
  | cons r rs ih => exact ih (office_queueReport h r)

theorem keeps_queueReport (s : State) (r : Report) : s.Keeps (s.queueReport r) :=
  keeps_office fun h => office_queueReport h r

theorem keeps_reply (s : State) (h : Handed) (r : HostReply) : s.Keeps (s.reply h r) :=
  keeps_office fun w => ⟨w.tags, w.distinct, w.refusals, w.reports⟩

theorem keeps_giveReply (s : State) (st : StationId) (n : Byte) (r : StationReply) :
    s.Keeps (s.giveReply st n r) := keeps_setStation fun _ h => h.takeReply n r

theorem keeps_effect (h : Effect s t) : s.Keeps t := by
  induction h with
  | start => exact .refl s
  | sale _ _ ih => exact ih.trans (keeps_sale _ _)
  | totals _ _ ih => exact ih.trans (keeps_totals _ _)
  | report _ r ih => exact ih.trans (keeps_queueReport _ r)
  | opened _ st n ih => exact ih.trans (keeps_setStation fun _ h => h.flag (some n))
  | freed _ st ih => exact ih.trans (keeps_setStation fun _ h => h.freed)
  | withdrawn _ st n ih => exact ih.trans (keeps_setStation fun _ h => h.withdraw n)

theorem keeps_replied {st : StationId} {n : Byte} (h : Replied s st n t) : s.Keeps t := by
  obtain ⟨u, r, hu, rfl⟩ := h
  exact (keeps_effect hu).trans (keeps_giveReply u st n r)

/-- Reports given out, and a change of the engine's collections. -/
theorem keeps_givenOut {o : OfficeLink} {rs : List Report} {x : SaleEngine} (h : s.Keeps u) (ho : o = u.office) :
    s.Keeps { u with office := o.reported rs, sale := x } := by
  subst ho
  exact (h.trans (keeps_office fun w => office_reported w rs)).trans (keeps_sale _ _)

theorem keeps_laneTaken (s : State) (l : Lane) (rest : List Handed) : s.Keeps (s.laneTaken l rest) :=
  keeps_lane rfl rfl fun ho => ⟨ho, id⟩

end Operations

/-! ### The lanes -/

section Lanes

variable (s : State) (l : Lane)

/-- An exchange ends on a lane that has one in flight, which therefore does not stand OFF. -/
theorem keeps_endExchange {x : Exchange} (hx : (s.lane l).exchange = some x) (e : ExchangeEnd) :
    s.Keeps (s.endExchange l x e) := by
  have hset (r : StationRecord) : (s.clearExchange l x).setStation ⟨l, x.poll.addr⟩ r =
      s.setLane l { s.lane l with
        exchange := none
        position := match x.poll.kind with | .poll => (s.lane l).position | .rollCall => some 0
        stations := (s.lane l).stations.set x.poll.addr r } := by
    rw [State.setStation, State.clearExchange, lane_setLane, setLane_setLane]
    rfl
  rw [endExchange_eq, State.does, hset]
  refine keeps_givenOut (keeps_setLane fun h => ?_) ?_
  · have hon : (s.lane l).mode ≠ .off := fun ho => absurd ((h.off ho).1.symm.trans hx) nofun
    obtain ⟨-, -, -, hs⟩ := lane_within_iff.mp h
    obtain ⟨htimeout, hwait, -, hrecords⟩ := lane_within_iff.mp
      (lane_within_set h ((hs x.poll.addr).endDeed (st := ⟨l, x.poll.addr⟩) (now := s.time) hon h.waitLimit
        x.poll.kind e))
    exact lane_within_iff.mpr ⟨htimeout, hwait, fun _ => rfl, hrecords⟩
  · rw [State.clearExchange, State.setLane_office, State.setLane_office]

theorem keeps_handDelivery (st : StationId) (n : Option Nat) : s.Keeps (s.handDelivery st n) := by
  cases n with
  | none => exact .refl s
  | some k => exact keeps_sale _ _

theorem keeps_sendTo (a : Fin 8) (k : PollKind) (hrun : (s.lane l).mode ≠ .off) : s.Keeps (s.sendTo l a k) := by
  refine State.Keeps.trans ?_ (keeps_handDelivery _ _ _)
  refine keeps_setLane fun h => ?_
  obtain ⟨htimeout, hwait, -, hs⟩ := lane_within_iff.mp (lane_within_set h (a := a)
    ((recordLawful_station (st := ⟨l, a⟩) h).polled))
  exact lane_within_iff.mpr ⟨htimeout, hwait, fun ho => absurd ho hrun, hs⟩

theorem keeps_sendNext (hrun : (s.lane l).mode ≠ .off) : s.Keeps (s.sendNext l) := by
  unfold State.sendNext
  split
  · exact keeps_sendTo s l _ _ hrun
  · exact keeps_lane rfl rfl fun ho => ⟨ho, id⟩

/-- R149: each station of the lane is ABSENT, and no exchange is in flight. -/
theorem keeps_laneEntersOff : s.Keeps (s.laneEntersOff l) := by
  refine State.Keeps.trans ?_ (keeps_sale _ _)
  refine keeps_setLane fun h => lane_within_iff.mpr ⟨h.timeout, h.waitLimit, fun _ => rfl, fun a => ?_⟩
  obtain ⟨-, -, -, hs⟩ := lane_within_iff.mp h
  rw [Eight.get_map]
  split
  next habsent => exact ⟨(hs a).within, (hs a).waits, fun _ => habsent⟩
  · exact StationRecord.madeAbsent_lawful _ h.waitLimit.1

theorem keeps_laneSet (h : Handed) (m : LaneMode) : s.Keeps (s.laneSet h l m) := by
  have moded (m : LaneMode) (hm : m ≠ .off) (p : Option (Fin 8)) :
      s.Keeps (s.setLane l { s.lane l with mode := m, position := p, waiting := none }) :=
    keeps_lane rfl rfl fun ho => absurd ho hm
  unfold State.laneSet
  dsimp only
  split
  · exact keeps_reply ..
  · exact keeps_reply ..
  · exact keeps_reply ..
  · exact keeps_reply ..
  · exact (keeps_laneEntersOff s l).trans (keeps_reply ..)
  · exact (keeps_laneEntersOff s l).trans (keeps_reply ..)
  · exact (moded .paused (by decide) _).trans (keeps_reply ..)
  · exact (moded .running (by decide) _).trans (keeps_reply ..)
  · exact (moded .running (by decide) _).trans (keeps_reply ..)

end Lanes

/-! ### The office line, the decoder and the Tariff Unit -/

section Blocks

variable (s : State)

/-- The request reaches its block; the clock's own fits what R198 states. -/
theorem keeps_hand (o : Owner) (h : Handed) (hfits : h.request.fits = true) : s.Keeps (s.hand o h) := by
  cases o with
  | saleEngine => exact keeps_sale _ _
  | decoder => exact keeps_decoder id
  | tariff => exact keeps_tariff fun w => ⟨w.active, w.staged, w.generation⟩
  | clock =>
    refine keeps_clock (fun w => ⟨w.day, w.minute, w.second, w.schedule_pos, w.schedule_size, w.rising, w.starts,
      w.unset, fun x hx => ?_⟩) ⟨rfl, rfl, rfl, rfl, rfl⟩
    rcases List.mem_append.mp hx with hx | hx
    · exact w.fits x hx
    · rwa [List.mem_singleton.mp hx]
  | lane l => exact keeps_lane rfl rfl fun ho => ⟨ho, id⟩
  | totals => exact keeps_totals _ _
  | hall => exact keeps_hall id

/-- What the four tests have found of a frame that they admit (12 R189). -/
theorem admission_admitted {o : OfficeLink} {f : TakenFrame} {reading : Option HostRequest} {r : HostRequest}
    {owner : Owner} (h : o.admission f reading = .admitted r owner) :
    o.closing = none ∧ f.tag ∉ o.tags.map (·.tag) ∧ o.tags.length < 8 ∧ readFrame f reading = some (r, owner) := by
  unfold OfficeLink.admission at h
  split at h
  · cases h
  next hclosing =>
    split at h
    · cases h
    next htag =>
      split at h
      · cases h
      next hroom =>
        split at h
        · cases h
        next hread =>
          obtain ⟨rfl, rfl⟩ := Admission.admitted.inj h
          exact ⟨not_not.mp hclosing, htag, Nat.not_le.mp hroom, hread⟩

theorem keeps_takeRequest (f : TakenFrame) (reading : Option HostRequest) : s.Keeps (s.takeRequest f reading) := by
  cases ha : s.office.admission f reading with
  | refused w entry =>
    rw [takeRequest_refused ha]
    split
    next hroom =>
      refine keeps_office fun h => ⟨h.tags, h.distinct, ?_, h.reports⟩
      rw [List.length_append, List.length_singleton]
      exact hroom
    · exact .refl s
  | admitted r owner =>
    obtain ⟨-, htag, hroom, hread⟩ := admission_admitted ha
    obtain ⟨hbody, -, -⟩ := readFrame_some.mp hread
    obtain ⟨-, hfrom, -⟩ := readBody_some.mp hbody
    rw [takeRequest_admitted ha]
    refine State.Keeps.trans ?_ (keeps_hand _ owner ⟨f.tag, r⟩ (readFrom_fits hfrom))
    refine keeps_office fun h => ⟨?_, ?_, h.refusals, h.reports⟩
    · rw [List.length_append, List.length_singleton]
      exact hroom
    · rw [List.map_append, List.map_singleton]
      refine List.nodup_append.mpr ⟨h.distinct, List.nodup_singleton _, fun a ha b hb he => ?_⟩
      obtain rfl := he.trans (List.mem_singleton.mp hb)
      exact htag ha

theorem keeps_sent (x : Sending) (hr : s.started = true) : s.Keeps (s.sent x) := by
  unfold State.sent
  split
  · exact keeps_office fun h => ⟨h.tags, h.distinct, h.refusals, h.reports⟩
  · refine State.Keeps.trans (t := { s with office := _ }) (keeps_office fun h => ?_) (keeps_hall fun _ => hr)
    exact ⟨(List.length_filter_le _ _).trans h.tags, (List.filter_sublist.map _).nodup h.distinct, h.refusals,
      h.reports⟩
  · exact keeps_office fun h => ⟨h.tags, h.distinct, h.refusals, h.reports⟩

theorem keeps_begin (f : OutFrame) : s.Keeps { s with office := s.office.begin f } := by
  refine keeps_office fun h => ?_
  cases f with
  | refusal r => exact ⟨h.tags, h.distinct, (List.tail_sublist _).length_le.trans h.refusals, h.reports⟩
  | reply r => exact ⟨h.tags, h.distinct, h.refusals, h.reports⟩
  | report r carried => exact ⟨h.tags, h.distinct, h.refusals, (List.tail_sublist _).length_le.trans h.reports⟩

theorem keeps_setClosing (c : ClosingStart) : s.Keeps (s.setClosing c) :=
  keeps_office fun h => ⟨h.tags, h.distinct, h.refusals, h.reports⟩

theorem keeps_setReceiver (r : Receiver) : s.Keeps (s.setReceiver r) :=
  keeps_office fun h => ⟨h.tags, h.distinct, h.refusals, h.reports⟩

theorem keeps_decoderTakes (h : Handed) (rest : List Handed) {f : Decoder → Decoder × HostReply}
    (hf : ∀ d : Decoder, d.Ordered → (f d).1.Ordered) : s.Keeps (s.decoderTakes h rest f) :=
  State.Keeps.trans (t := { s with decoder := _ }) (keeps_decoder fun hd => hf { s.decoder with inbox := rest } hd)
    (keeps_reply ..)

theorem keeps_tariffTakes (h : Handed) (rest : List Handed) {f : TariffUnit → TariffUnit × HostReply}
    (hf : ∀ t : TariffUnit, t.Within → (f t).1.Within) : s.Keeps (s.tariffTakes h rest f) :=
  State.Keeps.trans (t := { s with tariff := _ }) (keeps_tariff fun ht =>
    hf { s.tariff with inbox := rest } ⟨ht.active, ht.staged, ht.generation⟩) (keeps_reply ..)

theorem nextGeneration_le (g : Nat) : nextGeneration g ≤ 65535 := by
  unfold nextGeneration
  split <;> omega

theorem keeps_swap (cause : SwapCause) : s.Keeps (s.swap cause) := by
  unfold State.swap
  split
  next set hready =>
    refine State.Keeps.trans (keeps_tariff fun h => ?_) (keeps_queueReport ..)
    exact ⟨h.staged set (by rw [hready]; rfl), nofun, nextGeneration_le _⟩
  · exact .refl s

end Blocks

/-! ### What the decoder's and the Tariff Unit's requests keep (03 R43; 02 R18, 08 R136 to R140) -/

section Requests

theorem stopAdd_ordered {d : Decoder} (h : d.Ordered) (cards : List Nat) : (d.stopAdd cards).1.Ordered := by
  obtain ⟨hascending, hsize⟩ := h
  unfold Decoder.stopAdd
  split
  · exact ⟨hascending, hsize⟩
  · exact stopAddAll_ordered cards hascending hsize

theorem stopRemoveAll_sublist (stop cards : List Nat) : (stopRemoveAll stop cards).1.Sublist stop := by
  fun_induction stopRemoveAll stop cards with
  | case1 stop => exact .refl _
  | case2 stop n ns hin ih => exact ih.trans List.erase_sublist
  | case3 stop n ns hin ih => exact ih

theorem stopRemove_ordered {d : Decoder} (h : d.Ordered) (cards : List Nat) : (d.stopRemove cards).1.Ordered := by
  obtain ⟨hascending, hsize⟩ := h
  have hsub := stopRemoveAll_sublist d.stop cards
  unfold Decoder.stopRemove
  split
  · exact ⟨hascending, hsize⟩
  · exact ⟨hascending.sublist hsub, hsub.length_le.trans hsize⟩

theorem begin_within {t : TariffUnit} (h : t.Within) : t.begin.1.Within := by
  refine ⟨h.active, fun set hset => ?_, h.generation⟩
  obtain rfl := Option.some.inj hset
  exact ⟨.nil, Nat.zero_le _, nofun, h.active.groups⟩

theorem Eight.mem_set {α : Type} {t : Eight α} {a : Fin 8} {x y : α} (h : y ∈ (t.set a x).toList) :
    y = x ∨ y ∈ t.toList := by
  obtain ⟨p0, p1, p2, p3, p4, p5, p6, p7⟩ := t
  fin_cases a <;> simp only [Eight.set, Eight.toList, List.mem_cons, List.not_mem_nil, or_false] at h ⊢ <;> tauto

theorem clamped_clamped (f : GroupFigures) : f.clamped = f.clamped.clamped := by
  simp [GroupFigures.clamped, Eight.map]

theorem itemOk_of_none {n : Nat} {items : List PriceItem} (h : offendingItem n items = none) :
    ∀ i ∈ items, itemOk i = true := by
  induction items generalizing n with
  | nil => nofun
  | cons i items ih =>
    unfold offendingItem at h
    split at h
    · cases h
    next hgood =>
      rw [not_or, not_not] at hgood
      exact List.forall_mem_cons.mpr ⟨hgood.2, ih h⟩

theorem takeItems_within {t : TariffUnit} (h : t.Within) (items : List PriceItem) :
    (t.takeItems items).1.Within := by
  unfold TariffUnit.takeItems
  split
  · exact h
  next hgood =>
    rw [not_or, not_not] at hgood
    split
    next set hstaging =>
      have hset : set.Within := h.staged set (by rw [hstaging]; rfl)
      dsimp only
      split
      · exact h
      next hfits =>
        refine ⟨h.active, fun merged hmerged => ?_, h.generation⟩
        obtain rfl := Option.some.inj hmerged
        obtain ⟨hascending, hmem⟩ := putItems_ascending items (List.pairwise_map.mp hset.ascending)
        refine ⟨List.pairwise_map.mpr hascending, Nat.not_lt.mp hfits, fun i hi => ?_, hset.groups⟩
        rcases hmem i hi with hi | hi
        · exact itemOk_of_none hgood.2 i hi
        · exact hset.items i hi
    · exact h

theorem takeGroup_within {t : TariffUnit} (h : t.Within) (g : Nat) (f : GroupFigures) :
    (t.takeGroup g f).1.Within := by
  unfold TariffUnit.takeGroup
  split
  · exact h
  · split
    next set hstaging =>
      have hset : set.Within := h.staged set (by rw [hstaging]; rfl)
      refine ⟨h.active, fun x hx => ?_, h.generation⟩
      obtain rfl := Option.some.inj hx
      refine ⟨hset.ascending, hset.size, hset.items, fun y hy => ?_⟩
      rcases Eight.mem_set hy with rfl | hy
      · exact clamped_clamped f
      · exact hset.groups y hy
    · exact h

theorem finish_within {t : TariffUnit} (h : t.Within) (n : Nat) : (t.finish n).1.Within := by
  unfold TariffUnit.finish
  split
  next set hstaging =>
    split
    · refine ⟨h.active, fun x hx => ?_, h.generation⟩
      obtain rfl := Option.some.inj hx
      exact h.staged _ (by rw [hstaging]; rfl)
    · exact h
  · exact h

theorem list_within {t : TariffUnit} (h : t.Within) (which : TariffSetName) (p : Nat) :
    (t.list which p).1.Within := by
  unfold TariffUnit.list
  split <;> exact h

end Requests

end Sys2Proof.Machine

/-! PROOFS. Every command answers and keeps the laws of the single blocks: the waiting commands (O2), the office line
(O5), the Stop List (O11), the tariff sets (O12), the clock (O13) and the lanes (O14). -/

namespace Sys2Proof.Machine

open Sys2Proof

/-! ### The clock -/

section Clock

variable {s t : State}

theorem recomputed_within {c : HallClock} (h : c.Within) : c.recomputed.Within :=
  ⟨h.day, h.minute, h.second, h.schedule_pos, h.schedule_size, h.rising, h.starts, h.unset, h.fits⟩

/-- R133: after a recomputation the held stamp and kind are those of the held time, whatever they were before. -/
theorem keeps_recompute (h : s.Holds t) (cause : BoundaryCause) : s.Keeps (t.recompute cause) := by
  have hclock : s.clock.Within → t.clock.recomputed.Within := recomputed_within ∘ h.clock
  unfold State.recompute
  dsimp only
  split
  · exact ⟨⟨h.pending, h.office, h.decoder, fun w => ⟨(h.tariff w).active, (h.tariff w).staged, (h.tariff w).generation⟩,
      hclock, h.lanes⟩, fun _ _ => ⟨rfl, rfl⟩⟩
  · exact ⟨⟨h.pending, h.office, h.decoder, h.tariff, hclock, h.lanes⟩, fun _ _ => ⟨rfl, rfl⟩⟩

theorem keeps_clockTaken {x : Handed} {rest : List Handed} (h : s.clock.inbox = x :: rest) :
    s.Keeps (s.clockTaken rest) :=
  keeps_clock (fun w => ⟨w.day, w.minute, w.second, w.schedule_pos, w.schedule_size, w.rising, w.starts, w.unset,
    fun y hy => w.fits y (h ▸ List.mem_cons_of_mem x hy)⟩) ⟨rfl, rfl, rfl, rfl, rfl⟩

theorem keeps_setClock {x : Handed} {rest : List Handed} {day minute : Nat} (h : s.clock.inbox = x :: rest)
    (hx : x.request = .setClock day minute) : s.Keeps ((s.clockTaken rest).setClock x day minute) := by
  have htaken := keeps_clockTaken h
  unfold State.setClock
  split
  · exact htaken.trans (keeps_reply ..)
  next hminute =>
    split
    · exact htaken.trans (keeps_reply ..)
    · refine State.Keeps.trans (keeps_recompute (holds_clock fun w => ?_) .setClock) (keeps_reply ..)
      have hfits := w.fits x (h ▸ List.mem_cons_self)
      rw [hx, HostRequest.fits, Bool.and_eq_true] at hfits
      have hday : day < 65536 := of_decide_eq_true hfits.1
      exact ⟨Nat.le_of_lt_succ hday, Nat.not_lt.mp hminute, Nat.zero_le _, w.schedule_pos, w.schedule_size,
        w.rising, w.starts, nofun, fun y hy => w.fits y (h ▸ List.mem_cons_of_mem x hy)⟩

/-- A SET_PERIODS with a kind in each entry is that of the schedule it carries. -/
theorem asked_scheduleOf {entries : List AskedPeriod} (h : ∀ e ∈ entries, e.kind ≠ none) :
    (scheduleOf entries).map PeriodEntry.asked = entries := by
  induction entries with
  | nil => rfl
  | cons e entries ih =>
    obtain ⟨hkind, hrest⟩ := List.forall_mem_cons.mp h
    obtain ⟨start, _ | kind⟩ := e
    · exact absurd rfl hkind
    · exact congrArg (List.cons _) (ih hrest)

/-- R131: a schedule that is taken has 1 to 8 entries, within the day and rising. -/
theorem schedule_taken {entries : List AskedPeriod} (hne : entries ≠ [])
    (h : offendingPeriod 0 none entries = none) :
    1 ≤ (scheduleOf entries).length ∧ (scheduleOf entries).length ≤ 8 ∧
      (∀ e ∈ scheduleOf entries, e.start ≤ 1439) ∧ ((scheduleOf entries).map (·.start)).Pairwise (· < ·) := by
  rw [offendingPeriod_whole] at h
  have hno : ¬ ∃ i, PeriodOffends entries i := by
    rintro ⟨i, hi⟩
    obtain ⟨e, he, hoffends⟩ := periodOffends_iff.mp hi
    exact firstFrom_none.mp h i e he hoffends
  have hasked : (scheduleOf entries).map PeriodEntry.asked = entries := by
    refine asked_scheduleOf fun e he hnone => ?_
    obtain ⟨i, hi⟩ := List.mem_iff_getElem?.mp he
    exact hno ⟨i, e, hi, .inr (.inr (.inl hnone))⟩
  rw [← hasked, exists_periodOffends_iff] at hno
  push Not at hno
  obtain ⟨hsize, hstarts, hrising⟩ := hno
  refine ⟨List.length_pos_iff.mpr fun hnil => hne ?_, hsize, hstarts, hrising⟩
  rw [← hasked, hnil, List.map_nil]

theorem keeps_setPeriods {x : Handed} {rest : List Handed} {entries : List AskedPeriod}
    (h : s.clock.inbox = x :: rest) : s.Keeps ((s.clockTaken rest).setPeriods x entries) := by
  have htaken := keeps_clockTaken h
  unfold State.setPeriods
  split
  · exact htaken.trans (keeps_reply ..)
  next hgood =>
    rw [not_or, not_not] at hgood
    obtain ⟨hpos, hsize, hstarts, hrising⟩ := schedule_taken hgood.1 hgood.2
    refine State.Keeps.trans (keeps_recompute (holds_clock fun w => ?_) .setPeriods) (keeps_reply ..)
    exact ⟨w.day, w.minute, w.second, hpos, hsize, hrising, hstarts, w.unset,
      fun y hy => w.fits y (h ▸ List.mem_cons_of_mem x hy)⟩

theorem keeps_runTimers (s : State) : s.Keeps s.runTimers := by
  unfold State.runTimers
  split
  · exact keeps_sale _ _
  · exact .refl s

theorem minuteAdvanced_within {c : HallClock} (h : c.Within) (hset : c.isSet = true) : c.minuteAdvanced.Within := by
  have hday := h.day
  unfold HallClock.minuteAdvanced
  split
  next hm =>
    exact ⟨hday, hm, Nat.zero_le _, h.schedule_pos, h.schedule_size, h.rising, h.starts,
      fun hunset => absurd (hset.symm.trans hunset) nofun, h.fits⟩
  · refine ⟨?_, Nat.zero_le _, Nat.zero_le _, h.schedule_pos, h.schedule_size, h.rising, h.starts,
      fun hunset => absurd (hset.symm.trans hunset) nofun, h.fits⟩
    dsimp only
    split <;> omega

theorem second_within {c : HallClock} (h : c.Within) (hset : c.isSet ≠ false) (hsecond : c.second < 59) :
    ({ c with second := c.second + 1 } : HallClock).Within :=
  ⟨h.day, h.minute, hsecond, h.schedule_pos, h.schedule_size, h.rising, h.starts,
    fun hunset => absurd hunset hset, h.fits⟩

end Clock

/-! ### The stops and the two starts -/

section Starts

variable (s : State)

theorem abandon_within {c : LaneControl} (h : c.Within) : c.abandon.Within :=
  ⟨h.timeout, h.waitLimit, h.stations, h.waits, fun ho => ⟨rfl, (h.off ho).2⟩⟩

theorem keeps_stopTraffic : s.Keeps s.stopTraffic :=
  ⟨⟨rfl, fun w => ⟨w.tags, w.distinct, w.refusals, w.reports⟩, id, id, id,
    fun hl => ⟨abandon_within hl.1, abandon_within hl.2⟩⟩, id⟩

/-- A part that stands still from here. -/
theorem keeps_still {x : HallControl} (h : ({ s with hall := x } : State).started = false) :
    s.Keeps { s with hall := x } :=
  keeps_hall fun hx => absurd (h.symm.trans hx) nofun

theorem started_due {x : HallControl} (h : x.power = .retain ∨ x.resetHeld = true ∨ x.startDue ≠ none) :
    ({ s with hall := x } : State).started = false := by
  refine decide_eq_false fun ⟨hpower, hheld, hdue⟩ => ?_
  rcases h with h | h | h
  · exact absurd (h.symm.trans hpower) nofun
  · exact absurd (h.symm.trans hheld) nofun
  · exact h hdue

theorem warmed_within {c : LaneControl} (h : c.Within) : c.warmed.Within := by
  obtain ⟨htimeout, hwait, -, hs⟩ := lane_within_iff.mp h
  refine lane_within_iff.mpr ⟨htimeout, hwait, fun _ => rfl, fun a => ?_⟩
  show ((c.stations.map StationRecord.warmed).get a).Lawful _ _
  rw [Eight.get_map]
  exact (hs a).warmed hwait

theorem keeps_dropRequests : s.Keeps s.dropRequests :=
  ⟨⟨rfl, id, id, fun w => ⟨w.active, w.staged, w.generation⟩, fun w => ⟨w.day, w.minute, w.second, w.schedule_pos,
    w.schedule_size, w.rising, w.starts, w.unset, nofun⟩, id⟩, id⟩

theorem keeps_warmSales : s.Keeps s.warmSales := by
  have hlanes : s.Keeps { s with laneA := s.laneA.warmed, laneB := s.laneB.warmed } :=
    ⟨⟨rfl, id, id, id, id, fun hl => ⟨warmed_within hl.1, warmed_within hl.2⟩⟩, id⟩
  exact (hlanes.trans (keeps_sale _ _)).trans (keeps_effect (warmEngine_effect _))

theorem keeps_warmReport (cause : WarmCause) (voided moved : Nat) : s.Keeps (s.warmReport cause voided moved) := by
  refine State.Keeps.trans ?_ (keeps_queueReport ..)
  exact keeps_office fun w => ⟨w.tags, w.distinct, w.refusals, Nat.zero_le _⟩

theorem keeps_warmStart (cause : WarmCause) : s.Keeps (s.warmStart cause) := by
  have hfirst : s.Holds { s with office := s.office.warmed, hall := { s.hall with startDue := none } } :=
    ⟨rfl, fun w => ⟨Nat.zero_le _, List.nodup_nil, Nat.zero_le _, w.reports⟩, id, id, id, id⟩
  refine keeps_recompute (hfirst.trans ?_) .warmStart
  exact (((keeps_dropRequests _).trans (keeps_warmSales _)).trans (keeps_warmReport ..)).toHolds

theorem keeps_coldStart (byLatch : Bool) : s.Keeps (s.coldStart byLatch) :=
  ⟨⟨rfl, fun _ => office_within_initial, fun _ => ⟨.nil, Nat.zero_le _⟩, fun _ => tariff_within_initial,
    fun _ => clock_within_initial, fun _ => ⟨lane_within_initial, lane_within_initial⟩⟩, fun _ _ => ⟨rfl, rfl⟩⟩

end Starts

/-! ### The commands -/

section Commands

variable {s t u : State}

theorem whenRunning_keeps (h : whenRunning s u = .next t) (hu : s.Keeps u) : s.Keeps t := by
  rcases whenRunning_next h with ⟨-, rfl⟩ | ⟨-, rfl⟩
  · exact hu
  · exact .refl _

theorem whenStarted_keeps (h : whenStarted s u = .next t) (hu : s.Keeps u) : s.Keeps t := by
  rcases whenStarted_next h with ⟨-, rfl⟩ | ⟨-, rfl⟩
  · exact hu
  · exact .refl _

theorem keeps_next (h : (.next u : Result) = .next t) (hu : s.Keeps u) : s.Keeps t := by
  obtain rfl := Host.Outcome.next.inj h
  exact hu

theorem keeps_dequeued (s : State) : s.Keeps s.dequeued := keeps_sale _ _

theorem keeps_totalsTaken (s : State) (rest : List Handed) : s.Keeps (s.totalsTaken rest) := keeps_totals _ _

theorem keeps_setMode (s : State) (m : HallMode) : s.Keeps (s.setMode m) := keeps_hall id

theorem keeps_hallTaken (s : State) (rest : List Handed) : s.Keeps (s.hallTaken rest) := keeps_hall id

theorem keeps_creditOrder (s : State) (h : Handed) (id card amount : Nat) : s.Keeps (s.creditOrder h id card amount) := by
  unfold State.creditOrder
  dsimp only
  split
  · exact keeps_reply ..
  · split
    · exact keeps_reply ..
    · split
      · exact keeps_reply ..
      · exact (keeps_sale _ _).trans (keeps_reply ..)

theorem keeps_cancelCredit (s : State) (h : Handed) (id : Nat) : s.Keeps (s.cancelCredit h id) := by
  unfold State.cancelCredit
  split
  · exact keeps_reply ..
  · split
    · exact keeps_reply ..
    · exact (keeps_sale _ _).trans (keeps_reply ..)

theorem keeps_dismiss (s : State) (h : Handed) (card n : Nat) : s.Keeps (s.dismiss h card n) := by
  unfold State.dismiss
  split
  · exact keeps_reply ..
  · split
    · exact keeps_reply ..
    · exact (keeps_effect (Effect.start.endUnresolved _ _)).trans (keeps_reply ..)

theorem keeps_clearAll (s : State) (h : Handed) (id : Option Nat) : s.Keeps (s.clearAll h id) := by
  unfold State.clearAll
  split_ifs
  · exact keeps_reply ..
  · exact keeps_reply ..
  · exact keeps_reply ..
  · exact (keeps_setClosing ..).trans (keeps_reply ..)

theorem keeps_setHall (s : State) (h : Handed) (id : Nat) : s.Keeps (s.setHall h id) := by
  unfold State.setHall
  split_ifs
  · exact keeps_reply ..
  · exact keeps_reply ..
  · refine State.Keeps.trans ?_ (keeps_reply ..)
    exact keeps_hall fun hx => hx

theorem keeps_openHall (s : State) (h : Handed) : s.Keeps (s.openHall h) := by
  unfold State.openHall
  dsimp only
  split
  · exact (keeps_setMode ..).trans (keeps_reply ..)
  · exact keeps_reply ..

theorem keeps_suspendHall (s : State) (h : Handed) : s.Keeps (s.suspendHall h) := by
  unfold State.suspendHall
  split
  · exact (keeps_setMode ..).trans (keeps_reply ..)
  · exact keeps_reply ..

theorem keeps_resumeHall (s : State) (h : Handed) : s.Keeps (s.resumeHall h) := by
  unfold State.resumeHall
  split
  · exact (keeps_setMode ..).trans (keeps_reply ..)
  · exact keeps_reply ..

theorem keeps_laneReplied {l : Lane} {rest : List Handed} {c : LaneControl} {h : Handed} {r : HostReply}
    (hc : ((s.laneTaken l rest).lane l).Within → c.Within) :
    s.Keeps (((s.laneTaken l rest).setLane l c).reply h r) :=
  ((keeps_laneTaken ..).trans (keeps_setLane hc)).trans (keeps_reply ..)

theorem keeps_stationReplied {l : Lane} {rest : List Handed} {st : StationId} {y : StationRecord} {h : Handed}
    {r : HostReply} (hy : ((s.laneTaken l rest).lane st.lane).Within →
      (s.laneTaken l rest).RecordLawful st ((s.laneTaken l rest).station st) →
      (s.laneTaken l rest).RecordLawful st y) :
    s.Keeps (((s.laneTaken l rest).setStation st y).reply h r) :=
  ((keeps_laneTaken ..).trans (keeps_setStation hy)).trans (keeps_reply ..)

/-- R148: the settings are taken in OFF, where every station is ABSENT, and clamped to their ranges. -/
theorem settings_within {c : LaneControl} (h : c.Within) (hoff : c.mode = .off) (recovery : RecoveryMode)
    (errors : ErrorMode) (timeout wait : Nat) : ({ c with
      settings := ⟨recovery, errors, clampTo 1 15 timeout, clampTo 1 1000 wait⟩ } : LaneControl).Within := by
  have range (hi n : Nat) (hhi : 1 ≤ hi) : 1 ≤ clampTo 1 hi n ∧ clampTo 1 hi n ≤ hi := by
    unfold clampTo
    omega
  refine ⟨range 15 timeout (by decide), range 1000 wait (by decide), h.stations, fun a => ?_, h.off⟩
  obtain ⟨-, -, -, hwaits, -⟩ := (h.stations a).unserved (.inl ((h.off hoff).2 a))
  rw [hwaits]
  exact (range 1000 wait (by decide)).1

/-- A record that goes to GOOD with its counts at 0. -/
theorem good_lawful {st : StationId} {r y : StationRecord} (hl : (s.lane st.lane).Within)
    (h : s.RecordLawful st r) (hs : r.state ≠ .absent) (hy : y.state = .good) (hscore : y.score = 0)
    (hcalls : y.cleanCalls = 0) (hwaits : y.waits = 0) (hsilent : y.silent ≤ 8) : s.RecordLawful st y := by
  obtain ⟨hone, hmax⟩ := hl.waitLimit
  exact StationRecord.lawful_served (.inl hy) (h.not_off hs) hmax (by omega) (by omega) (by omega) hsilent

/-- Every command keeps the laws of the single blocks. -/
theorem exec_keeps {i : Instr} (h : exec i s = .next t) : s.Keeps t := by
  cases i with
  | officeFrameReceived =>
    refine whenRunning_keeps h ?_
    dsimp only
    split
    · exact keeps_setReceiver ..
    · exact (keeps_setReceiver ..).trans (keeps_takeRequest ..)
  | frameSendStart =>
    refine whenRunning_keeps h ?_
    split
    · exact keeps_begin ..
    · exact .refl s
  | frameSentInFull =>
    rcases whenRunning_next h with ⟨hr, rfl⟩ | ⟨-, rfl⟩
    · split
      · exact keeps_sent s _ (running_iff_events.mp hr).1
      · exact .refl s
    · exact .refl _
  | officeStartMarker =>
    refine whenRunning_keeps h ?_
    split
    · exact keeps_setReceiver ..
    · exact .refl s
  | officeByteGapTimeout => exact whenRunning_keeps h (keeps_setReceiver ..)
  | frameLengthOverLimit =>
    refine whenRunning_keeps h ?_
    split
    · split
      · exact keeps_setReceiver ..
      · exact .refl s
    · exact .refl s
  | saleOpen | reverse =>
    refine whenRunning_keeps h ?_
    split
    · exact (keeps_dequeued s).trans (keeps_replied (present_replied ..))
    · exact .refl s
  | saleDone =>
    refine whenRunning_keeps h ?_
    split
    · exact (keeps_dequeued s).trans (keeps_replied (complete_replied _ _ _ (done_effect ..)))
    · exact .refl s
  | saleTorn =>
    refine whenRunning_keeps h ?_
    split
    · exact (keeps_dequeued s).trans (keeps_replied (complete_replied _ _ _ (torn_effect ..)))
    · exact .refl s
  | saleCancel =>
    refine whenRunning_keeps h ?_
    split
    · exact (keeps_dequeued s).trans (keeps_replied (complete_replied _ _ _ (cancelled_effect ..)))
    · exact .refl s
  | deliveryEvent =>
    refine whenRunning_keeps h ?_
    split
    · exact .refl s
    · exact keeps_sale _ _
  | writeTimerExpiry =>
    refine whenRunning_keeps h ?_
    split
    · exact keeps_effect (Effect.start.moveToDoubt _ _)
    · exact .refl s
  | lossEvent =>
    refine whenRunning_keeps h ?_
    split
    · exact .refl s
    · dsimp only
      split
      · exact (keeps_sale _ _).trans (keeps_effect (Effect.start.takeLoss _ _))
      · exact keeps_sale _ _
  | creditOrder =>
    refine whenRunning_keeps h ?_
    split
    · exact (keeps_dequeued s).trans (keeps_creditOrder ..)
    · exact .refl s
  | cancelCredit =>
    refine whenRunning_keeps h ?_
    split
    · exact (keeps_dequeued s).trans (keeps_cancelCredit ..)
    · exact .refl s
  | queryCredits | queryCard | doubtList | saleList =>
    refine whenRunning_keeps h ?_
    split
    · exact (keeps_dequeued s).trans (keeps_reply ..)
    · exact .refl s
  | writeTimerSet =>
    refine whenRunning_keeps h ?_
    split
    · exact ((keeps_dequeued s).trans (keeps_sale _ _)).trans (keeps_reply ..)
    · exact .refl s
  | doubtDismiss =>
    refine whenRunning_keeps h ?_
    split
    · exact (keeps_dequeued s).trans (keeps_dismiss ..)
    · exact .refl s
  | stopAdd =>
    refine whenRunning_keeps h ?_
    split
    · exact keeps_decoderTakes _ _ _ fun _ hd => stopAdd_ordered hd _
    · exact .refl s
  | stopRemove =>
    refine whenRunning_keeps h ?_
    split
    · exact keeps_decoderTakes _ _ _ fun _ hd => stopRemove_ordered hd _
    · exact .refl s
  | stopClear =>
    refine whenRunning_keeps h ?_
    split
    · exact keeps_decoderTakes _ _ _ fun _ _ => ⟨.nil, Nat.zero_le _⟩
    · exact .refl s
  | stopList | rangeSet | rangeClear | rangeDefault =>
    refine whenRunning_keeps h ?_
    split
    · refine keeps_decoderTakes _ _ _ fun d hd => ?_
      simp only [Decoder.stopList, Decoder.rangeSet, Decoder.rangeClear, Decoder.rangeDefault]
      split <;> exact hd
    · exact .refl s
  | rangeList | classQuery =>
    refine whenRunning_keeps h ?_
    split
    · exact keeps_decoderTakes _ _ _ fun _ hd => hd
    · exact .refl s
  | tariffBegin =>
    refine whenRunning_keeps h ?_
    split
    · exact keeps_tariffTakes _ _ _ fun _ ht => begin_within ht
    · exact .refl s
  | tariffItems =>
    refine whenRunning_keeps h ?_
    split
    · exact keeps_tariffTakes _ _ _ fun _ ht => takeItems_within ht _
    · exact .refl s
  | tariffGroup =>
    refine whenRunning_keeps h ?_
    split
    · exact keeps_tariffTakes _ _ _ fun _ ht => takeGroup_within ht _ _
    · exact .refl s
  | tariffEnd =>
    refine whenRunning_keeps h ?_
    split
    · exact keeps_tariffTakes _ _ _ fun _ ht => finish_within ht _
    · exact .refl s
  | tariffList =>
    refine whenRunning_keeps h ?_
    split
    · exact keeps_tariffTakes _ _ _ fun _ ht => list_within ht _ _
    · exact .refl s
  | tariffSwapNow =>
    refine whenRunning_keeps h ?_
    split
    · have taken (rest : List Handed) : s.Keeps { s with tariff := { s.tariff with inbox := rest } } :=
        keeps_tariff fun w => ⟨w.active, w.staged, w.generation⟩
      dsimp only
      split
      · exact ((taken _).trans (keeps_swap ..)).trans (keeps_reply ..)
      · exact (taken _).trans (keeps_reply ..)
    · exact .refl s
  | tariffBoundarySwap =>
    refine whenStarted_keeps h ?_
    split
    · refine State.Keeps.trans ?_ (keeps_swap ..)
      exact keeps_tariff fun w => ⟨w.active, w.staged, w.generation⟩
    · exact .refl s
  | setClock =>
    refine whenRunning_keeps h ?_
    split
    next hinbox => exact keeps_setClock hinbox rfl
    · exact .refl s
  | setPeriods =>
    refine whenRunning_keeps h ?_
    split
    next hinbox => exact keeps_setPeriods hinbox
    · exact .refl s
  | clockRead =>
    refine whenRunning_keeps h ?_
    split
    next hinbox => exact (keeps_clockTaken hinbox).trans (keeps_reply ..)
    · exact .refl s
  | secondsCountAdvance =>
    refine keeps_next h ?_
    split
    · exact keeps_runTimers s
    next hset =>
      split
      next hsecond =>
        refine State.Keeps.trans ?_ (keeps_runTimers _)
        exact keeps_clock (fun w => second_within w hset hsecond) ⟨rfl, rfl, rfl, rfl, rfl⟩
      · exact .refl s
  | minuteAdvance =>
    refine keeps_next h ?_
    dsimp only
    split
    next hset =>
      have hadvanced : s.Holds { s with clock := s.clock.minuteAdvanced } :=
        holds_clock fun w => minuteAdvanced_within w hset.1
      split
      · exact keeps_recompute (hadvanced.trans (keeps_runTimers _).toHolds) _
      next hstill => exact ⟨hadvanced, fun _ hstarted => absurd hstarted hstill⟩
    · exact .refl s
  | journalFetch | dayClose =>
    refine whenRunning_keeps h ?_
    split
    · exact (keeps_totals s _).trans (keeps_reply ..)
    · exact .refl s
  | journalRelease =>
    refine whenRunning_keeps h ?_
    split
    · exact (keeps_totals s _).trans (keeps_reply ..)
    · exact .refl s
  | totalsRead =>
    refine whenRunning_keeps h ?_
    split
    · exact (keeps_totalsTaken s _).trans (keeps_reply ..)
    · exact (keeps_totalsTaken s _).trans (keeps_reply ..)
    · exact .refl s
  | periodCounterCapture =>
    refine whenStarted_keeps h ?_
    split
    · exact (keeps_totals s _).trans (keeps_queueReport ..)
    · exact .refl s
  | status =>
    refine whenRunning_keeps h ?_
    split
    · exact (keeps_hallTaken s _).trans (keeps_reply ..)
    · exact .refl s
  | softReset =>
    refine whenRunning_keeps h ?_
    split
    · exact ((keeps_hallTaken s _).trans (keeps_setClosing ..)).trans (keeps_reply ..)
    · exact .refl s
  | clearAll =>
    refine whenRunning_keeps h ?_
    split
    · exact (keeps_hallTaken s _).trans (keeps_clearAll ..)
    · exact .refl s
  | setHall =>
    refine whenRunning_keeps h ?_
    split
    · exact (keeps_hallTaken s _).trans (keeps_setHall ..)
    · exact .refl s
  | openHall =>
    refine whenRunning_keeps h ?_
    split
    · exact (keeps_hallTaken s _).trans (keeps_openHall ..)
    · exact .refl s
  | suspend =>
    refine whenRunning_keeps h ?_
    split
    · exact (keeps_hallTaken s _).trans (keeps_suspendHall ..)
    · exact .refl s
  | resume =>
    refine whenRunning_keeps h ?_
    split
    · exact (keeps_hallTaken s _).trans (keeps_resumeHall ..)
    · exact .refl s
  | laneSet =>
    refine whenRunning_keeps h ?_
    split
    · exact (keeps_laneTaken ..).trans (keeps_laneSet ..)
    · exact .refl s
  | laneSettings =>
    refine whenRunning_keeps h ?_
    split
    · dsimp only
      split
      next hoff => exact keeps_laneReplied fun hl => settings_within hl hoff ..
      · exact (keeps_laneTaken ..).trans (keeps_reply ..)
    · exact .refl s
  | enroll =>
    refine whenRunning_keeps h ?_
    split
    · dsimp only
      split
      next hpending =>
        exact keeps_stationReplied fun hl hr =>
          good_lawful hl hr (by rw [hpending]; nofun) rfl rfl rfl rfl (Nat.zero_le _)
      · exact (keeps_laneTaken ..).trans (keeps_reply ..)
    · exact (keeps_laneTaken ..).trans (keeps_reply ..)
    · exact .refl s
  | restore =>
    refine whenRunning_keeps h ?_
    split
    · dsimp only
      split
      next hlost =>
        exact keeps_stationReplied fun hl hr =>
          good_lawful hl hr (by rcases hlost with h | h <;> rw [h] <;> nofun) rfl rfl rfl rfl hr.within.silent
      · exact (keeps_laneTaken ..).trans (keeps_reply ..)
    · exact (keeps_laneTaken ..).trans (keeps_reply ..)
    · exact .refl s
  | release =>
    refine whenRunning_keeps h ?_
    split
    · dsimp only
      split
      · exact (keeps_laneTaken ..).trans (keeps_reply ..)
      · exact (keeps_laneTaken ..).trans (keeps_reply ..)
      · exact (keeps_laneTaken ..).trans (keeps_reply ..)
      · split
        · exact (keeps_laneTaken ..).trans (keeps_reply ..)
        · exact keeps_stationReplied fun hl _ => StationRecord.madeAbsent_lawful _ hl.waitLimit.1
    · exact (keeps_laneTaken ..).trans (keeps_reply ..)
    · exact .refl s
  | clearStationErrors =>
    refine whenRunning_keeps h ?_
    split
    · exact keeps_stationReplied fun _ hr => hr.errorsCleared
    · exact (keeps_laneTaken ..).trans (keeps_reply ..)
    · exact .refl s
  | clearLineStuck =>
    refine whenRunning_keeps h ?_
    split
    · exact keeps_laneReplied fun hl => ⟨hl.timeout, hl.waitLimit, hl.stations, hl.waits, hl.off⟩
    · exact .refl s
  | laneRead =>
    refine whenRunning_keeps h ?_
    split
    · exact (keeps_laneTaken ..).trans (keeps_reply ..)
    · exact .refl s
  | sendPoll l =>
    refine whenRunning_keeps h ?_
    dsimp only
    split
    next hready => exact keeps_sendNext s l (by rw [hready.1]; nofun)
    · exact .refl s
  | laneAnswer l =>
    refine whenRunning_keeps h ?_
    split
    · exact .refl s
    next x hx =>
      dsimp only
      split
      · exact keeps_endExchange s l hx _
      · exact keeps_lane rfl rfl fun ho => ⟨ho, fun hidle => absurd (hidle.symm.trans hx) nofun⟩
  | answerTimeout l =>
    refine whenRunning_keeps h ?_
    split
    · exact .refl s
    next x hx => exact keeps_endExchange s l hx _
  | lineStuck l =>
    refine whenRunning_keeps h ?_
    dsimp only
    split
    · have waits (p : Fin 8 × PollKind) :
          s.Keeps (s.setLane l { s.lane l with lineStuck := true, waiting := some p }) :=
        keeps_lane rfl rfl fun ho => ⟨ho, id⟩
      split
      · exact .refl s
      · split
        · exact waits _
        · exact (waits _).trans (keeps_queueReport ..)
    · exact .refl s
  | lineIdleResume l =>
    refine whenRunning_keeps h ?_
    dsimp only
    split
    · split
      next hready => exact keeps_sendTo s l _ _ (by rw [hready.1]; nofun)
      · exact .refl s
    · exact .refl s
  | mainSupplyLoss =>
    refine keeps_next h ?_
    split
    · exact (keeps_stopTraffic s).trans (keeps_still _ (started_due _ (.inl rfl)))
    · exact .refl s
  | mainSupplyReturn =>
    refine keeps_next h ?_
    split
    · exact .refl s
    · exact keeps_still s (started_due s (.inr (.inr nofun)))
  | backupFailure => exact keeps_next h (keeps_hall id)
  | resetLineAssert =>
    refine keeps_next h ?_
    split
    · exact .refl s
    · split
      · exact (keeps_stopTraffic s).trans (keeps_still _ (started_due _ (.inr (.inl rfl))))
      · exact keeps_still s (started_due s (.inr (.inl rfl)))
  | resetLineRelease =>
    refine keeps_next h ?_
    split
    · refine keeps_still s (started_due s ?_)
      unfold HallControl.releaseLine
      split
      · exact .inr (.inr nofun)
      next hpower => exact .inl hpower
    · exact .refl s
  | warmStart =>
    refine keeps_next h ?_
    split
    · exact keeps_warmStart ..
    · exact .refl s
  | coldStart =>
    refine keeps_next h ?_
    split
    · exact keeps_coldStart ..
    · exact .refl s

/-- No command stops the part. -/
theorem exec_answers (i : Instr) (s : State) : ∃ t, exec i s = .next t := by
  cases i <;> exact ⟨_, rfl⟩

/-- A step keeps the laws of the single blocks, whatever then waits. -/
theorem step_keeps (h : step s = .next t) : ∃ rest, ({ s with pending := rest } : State).Keeps t := by
  unfold step at h
  split at h
  · obtain rfl := Host.Outcome.next.inj h
    exact ⟨s.pending, .refl s⟩
  next c rest _ => exact ⟨rest, exec_keeps h⟩

end Commands

/-- Settles O2. -/
theorem commandsAnswerAndKeepQueue : Obligations.CommandsAnswerAndKeepQueue := by
  intro c s
  obtain ⟨t, ht⟩ := exec_answers c s
  exact ⟨t, ht, (exec_keeps ht).pending⟩

/-- Settles O5. -/
theorem officeWithinKept : Obligations.OfficeWithinKept := by
  intro s t h hstep
  obtain ⟨_, hk⟩ := step_keeps hstep
  exact hk.office h

/-- Settles O11. -/
theorem stopListKept : Obligations.StopListKept := by
  intro s t h hstep
  obtain ⟨_, hk⟩ := step_keeps hstep
  exact hk.decoder h

/-- Settles O12. -/
theorem tariffWithinKept : Obligations.TariffWithinKept := by
  intro s t h hstep
  obtain ⟨_, hk⟩ := step_keeps hstep
  exact hk.tariff h

/-- Settles O13. -/
theorem clockKept : Obligations.ClockKept := by
  intro s t h hperiod hstep
  obtain ⟨_, hk⟩ := step_keeps hstep
  exact ⟨hk.clock h, hk.period hperiod⟩

/-- Settles O14. -/
theorem lanesWithinKept : Obligations.LanesWithinKept := by
  intro s t h hstep
  obtain ⟨_, hk⟩ := step_keeps hstep
  exact hk.lanes h

end Sys2Proof.Machine

/-! PROOFS. The two starts (12 R196, R197; 04 R86; 05 R90; O60): what a warm start's voids and moves come to. -/

namespace Sys2Proof.Machine

open Sys2Proof

/-! ### The stations at the ends of several contexts -/

/-- No station holds a reply or has asked to leave, as a warm start of the lanes leaves them (09 R162). -/
def State.Calm (s : State) : Prop :=
  ∀ st, (s.station st).slot = none ∧ (s.station st).leaveRequested = false

theorem withdraw_of_empty {r : StationRecord} (h : r.slot = none) (n : Nat) : r.withdraw n = r := by
  have hno : ¬ r.holdsOrder n = true := by simp [StationRecord.holdsOrder, h]
  exact if_neg hno

theorem freed_of_staying {r : StationRecord} (h : r.leaveRequested = false) :
    r.freed = { r with contextFlag := none } :=
  if_neg fun hl => by
    obtain ⟨hleave, -⟩ : r.leaveRequested = true ∧ _ := of_decide_eq_true hl
    exact absurd (hleave.symm.trans h) nofun

/-- The contexts `cs` have left the table of `s`, and their stations have their flags clear. -/
structure Released (s : State) (cs : List Context) (t : State) : Prop where
  contexts : t.sale.contexts = s.sale.contexts.filter fun x => x.data.sale ∉ cs.map (·.data.sale)
  stations : ∀ st, t.station st = { s.station st with
    contextFlag := if ∃ c ∈ cs, c.data.station = st then none else (s.station st).contextFlag }
  lanes : s.LanesKept t
  engine : t.sale.queue = s.sale.queue ∧ t.sale.counter = s.sale.counter ∧
    t.sale.timerSetting = s.sale.timerSetting ∧ t.sale.deliveries = s.sale.deliveries ∧
    t.sale.losses = s.sale.losses
  others : t.hall = s.hall ∧ t.decoder = s.decoder ∧ t.tariff = s.tariff ∧ t.clock = s.clock ∧
    t.pending = s.pending

section Released

variable {s t u : State} {cs ds : List Context} {c : Context}

theorem Released.nil (s : State) : Released s [] s where
  contexts := (List.filter_eq_self.mpr (by simp)).symm
  stations := by simp
  lanes := fun _ => rfl
  engine := ⟨rfl, rfl, rfl, rfl, rfl⟩
  others := ⟨rfl, rfl, rfl, rfl, rfl⟩

theorem Released.trans (h : Released s cs t) (h' : Released t ds u) : Released s (cs ++ ds) u := by
  obtain ⟨hqueue, hcounter, htimer, hdeliveries, hlosses⟩ := h.engine
  obtain ⟨hhall, hdecoder, htariff, hclock, hpending⟩ := h.others
  obtain ⟨hqueue', hcounter', htimer', hdeliveries', hlosses'⟩ := h'.engine
  obtain ⟨hhall', hdecoder', htariff', hclock', hpending'⟩ := h'.others
  refine ⟨?_, fun st => ?_, lanesKept_trans h.lanes h'.lanes,
    ⟨hqueue'.trans hqueue, hcounter'.trans hcounter, htimer'.trans htimer, hdeliveries'.trans hdeliveries,
      hlosses'.trans hlosses⟩,
    ⟨hhall'.trans hhall, hdecoder'.trans hdecoder, htariff'.trans htariff, hclock'.trans hclock,
      hpending'.trans hpending⟩⟩
  · rw [h'.contexts, h.contexts, List.filter_filter]
    refine List.filter_congr fun x _ => ?_
    rw [List.map_append, ← Bool.decide_and]
    exact decide_eq_decide.mpr (by rw [List.mem_append, not_or, and_comm])
  · rw [h'.stations, h.stations]
    by_cases hc : ∃ c ∈ cs, c.data.station = st
    · have hboth : ∃ c ∈ cs ++ ds, c.data.station = st := by
        obtain ⟨c, hmem, hst⟩ := hc
        exact ⟨c, List.mem_append_left _ hmem, hst⟩
      simp only [if_pos hc, if_pos hboth, ite_self]
    · have hboth : (∃ c ∈ cs ++ ds, c.data.station = st) ↔ ∃ c ∈ ds, c.data.station = st := by
        simp only [List.mem_append, or_and_right, exists_or, hc, false_or]
      simp only [if_neg hc, hboth]

theorem Released.calm (h : Released s cs t) (hs : s.Calm) : t.Calm := fun st => by
  rw [h.stations]
  exact hs st

theorem contexts_without (l : List Context) (c : Context) :
    (l.filter fun x => x.data.sale ≠ c.data.sale) = l.filter fun x => x.data.sale ∉ [c].map (·.data.sale) :=
  List.filter_congr fun x _ => by simp

/-- One station freed, the others as they were. -/
theorem stations_freed {r : StationRecord} (hcalm : (s.station c.data.station).leaveRequested = false)
    (hr : r = s.station c.data.station) (hst : t.station c.data.station = r.freed)
    (hothers : ∀ st, st ≠ c.data.station → t.station st = s.station st) (st : StationId) :
    t.station st = { s.station st with
      contextFlag := if ∃ x ∈ [c], x.data.station = st then none else (s.station st).contextFlag } := by
  subst hr
  by_cases h : c.data.station = st
  · subst h
    rw [hst, freed_of_staying hcalm]
    simp
  · rw [hothers st (Ne.symm h)]
    simp [h]

theorem voidContext_released (hcalm : s.Calm) (c : Context) : Released s [c] (s.voidContext c) := by
  have h := voidContext_isVoid s c
  obtain ⟨hslot, hstay⟩ := hcalm c.data.station
  obtain ⟨hqueue, hcounter, htimer, -, hdeliveries, hlosses⟩ := h.engine
  obtain ⟨hhall, hdecoder, htariff, hclock, -, hpending⟩ := h.others
  refine ⟨h.contexts.trans (contexts_without ..), stations_freed hstay ?_ h.station h.stations, h.lanes,
    ⟨hqueue, hcounter, htimer, hdeliveries, hlosses⟩, ⟨hhall, hdecoder, htariff, hclock, hpending⟩⟩
  rw [withdraw_of_empty hslot, ite_self]

theorem moveToDoubt_released (hn : s.sale.Numbered) (hcalm : s.Calm) (c : Context) (cause : DoubtCause) :
    Released s [c] (s.moveToDoubt c cause) := by
  have h := moveToDoubt_isMove hn c cause
  obtain ⟨hslot, hstay⟩ := hcalm c.data.station
  exact ⟨h.contexts.trans (contexts_without ..),
    stations_freed hstay (withdraw_of_empty hslot c.data.sale) h.station h.stations, h.lanes, h.engine, h.others⟩

theorem leavingReports_of_calm (hcalm : s.Calm) (st : StationId) : s.leavingReports st = [] :=
  if_neg fun hl => by
    obtain ⟨hleave, -⟩ : (s.station st).leaveRequested = true ∧ _ := of_decide_eq_true hl
    exact absurd (hleave.symm.trans (hcalm st).2) nofun

end Released

/-! ### The voids (04 R81, R86) -/

/-- The state after the voids of `cs`. -/
structure Voided (s : State) (cs : List Context) (t : State) : Prop extends Released s cs t where
  doubts : t.sale.doubts = s.sale.doubts
  credits : t.sale.credits = returnOrders (cs.flatMap (·.data.riding)) s.sale.credits
  memory : t.sale.memory = s.sale.memory.map fun r =>
    { r with inUse := if ∃ c ∈ cs, c.data.card = r.card then none else r.inUse }
  notes : t.sale.lastClosed =
    cs.foldl (fun l c => stationSet l c.data.station (some ⟨c.data.sale, .voided⟩)) s.sale.lastClosed
  office : t.office = s.office
  totals : t.totals = s.totals

theorem returnOrders_append (a b : List Nat) (l : List CreditOrder) :
    returnOrders (a ++ b) l = returnOrders b (returnOrders a l) := by
  simp only [returnOrders, List.map_map]
  refine List.map_congr_left fun o _ => ?_
  by_cases ha : o.id ∈ a <;> by_cases hb : o.id ∈ b <;> simp [ha, hb]

theorem removeOrders_append (a b : List Nat) (l : List CreditOrder) :
    removeOrders (a ++ b) l = removeOrders b (removeOrders a l) := by
  simp only [removeOrders, List.filter_filter]
  refine List.filter_congr fun o _ => ?_
  rw [← Bool.decide_and]
  exact decide_eq_decide.mpr (by rw [List.mem_append, not_or, and_comm])

theorem voidAll_voided {s : State} (hcalm : s.Calm) (cs : List Context) : Voided s cs (s.voidAll cs) := by
  unfold State.voidAll
  induction cs generalizing s with
  | nil => exact ⟨.nil s, rfl, by simp [returnOrders], by simp, rfl, rfl, rfl⟩
  | cons c cs ih =>
    have h := voidContext_isVoid s c
    have hreleased := voidContext_released hcalm c
    have hrest := ih (hreleased.calm hcalm)
    obtain ⟨-, -, -, hdoubts, -⟩ := h.engine
    obtain ⟨-, -, -, -, htotals, -⟩ := h.others
    refine ⟨hreleased.trans hrest.toReleased, hrest.doubts.trans hdoubts, ?_, ?_, ?_, ?_,
      hrest.totals.trans htotals⟩
    · rw [List.foldl_cons, hrest.credits, h.credits, List.flatMap_cons, returnOrders_append]
    · rw [List.foldl_cons, hrest.memory, h.memory, updateCard, List.map_map]
      refine List.map_congr_left fun r _ => ?_
      by_cases hr : r.card = c.data.card <;>
        simp [CardRecord.setInUse, hr, eq_comm (a := c.data.card)]
    · rw [List.foldl_cons, hrest.notes, h.notes, List.foldl_cons]
    · rw [List.foldl_cons, hrest.office, h.office, leavingReports_of_calm hcalm, reported_nil]

/-! ### The journal as entries are pushed out (05 R90, 11 R178) -/

/-- `j'` is `j` with one record for each of `bodies`, none of them counted. -/
structure Grown (j : JournalTotals) (now : Time) (bodies : List RecordBody) (j' : JournalTotals) : Prop where
  journal : j.journal <+: j'.journal
  records : j'.journal.map (fun r => (r.time, r.body)) =
    j.journal.map (fun r => (r.time, r.body)) ++ bodies.map fun b => (now, b)
  numbers : bodies = [] → j'.next = j.next ∧ j'.exhausted = j.exhausted
  totals : j'.period = j.period ∧ j'.lastPeriod = j.lastPeriod ∧ j'.lastStamp = j.lastStamp ∧ j'.daily = j.daily ∧
    j'.closedDay = j.closedDay ∧ j'.closedTime = j.closedTime ∧ j'.lastClose = j.lastClose
  queues : j'.boundary = j.boundary ∧ j'.inbox = j.inbox
  high : j'.high = (j.high || decide (j.journal.length < 1792 ∧ 1792 ≤ j.journal.length + bodies.length))

/-- How many JOURNAL_HIGH reports `k` more records bring (11 R182). -/
def JournalTotals.highAfter (j : JournalTotals) (k : Nat) : Nat :=
  if j.high = false ∧ j.journal.length < 1792 ∧ 1792 ≤ j.journal.length + k then 1 else 0

section Grown

variable {j j' j'' : JournalTotals} {now : Time} {as bs : List RecordBody}

theorem Grown.length (h : Grown j now as j') : j'.journal.length = j.journal.length + as.length := by
  simpa using congrArg List.length h.records

theorem Grown.nil (j : JournalTotals) (now : Time) : Grown j now [] j where
  journal := List.prefix_refl _
  records := by simp
  numbers := fun _ => ⟨rfl, rfl⟩
  totals := ⟨rfl, rfl, rfl, rfl, rfl, rfl, rfl⟩
  queues := ⟨rfl, rfl⟩
  high := by
    rw [decide_eq_false (fun ⟨h, h'⟩ => absurd h (Nat.not_lt.mpr h')), Bool.or_false]

theorem Grown.trans (h : Grown j now as j') (h' : Grown j' now bs j'') : Grown j now (as ++ bs) j'' := by
  obtain ⟨h1, h2, h3, h4, h5, h6, h7⟩ := h.totals
  obtain ⟨h1', h2', h3', h4', h5', h6', h7'⟩ := h'.totals
  obtain ⟨hb, hi⟩ := h.queues
  obtain ⟨hb', hi'⟩ := h'.queues
  refine ⟨h.journal.trans h'.journal, ?_, fun hnil => ?_,
    ⟨h1'.trans h1, h2'.trans h2, h3'.trans h3, h4'.trans h4, h5'.trans h5, h6'.trans h6, h7'.trans h7⟩,
    ⟨hb'.trans hb, hi'.trans hi⟩, ?_⟩
  · rw [h'.records, h.records, List.map_append, List.append_assoc]
  · obtain ⟨ha, hb⟩ := List.append_eq_nil_iff.mp hnil
    exact ⟨(h'.numbers hb).1.trans (h.numbers ha).1, (h'.numbers hb).2.trans (h.numbers ha).2⟩
  · rw [h'.high, h.high, h.length, Bool.or_assoc, ← Bool.decide_or, List.length_append]
    exact congrArg _ (decide_eq_decide.mpr (by omega))

theorem Grown.highAfter (h : Grown j now as j') (k : Nat) :
    j.highAfter (as.length + k) = j.highAfter as.length + j'.highAfter k := by
  unfold JournalTotals.highAfter
  rw [h.length, h.high]
  cases j.high with
  | true => simp
  | false =>
    simp only [Bool.false_or, decide_eq_false_iff_not, true_and]
    split_ifs <;> omega

/-- One record that no counter counts (11 R183). -/
theorem totalsAfter_grown (s : State) {b : RecordBody} (h : b.outcome = .voidedAfterDoubt ∨ b.outcome = .unresolved) :
    Grown s.totals s.time [b] (s.totalsAfter b) where
  journal := List.prefix_append _ _
  records := by simp [State.totalsAfter]
  numbers := nofun
  totals := ⟨(totalsAfter_uncounted s h).1, rfl, rfl, (totalsAfter_uncounted s h).2, rfl, rfl, rfl⟩
  queues := ⟨rfl, rfl⟩
  high := by
    simp only [State.totalsAfter, List.length_singleton]
    exact congrArg _ (decide_eq_decide.mpr (by omega))

theorem length_highReports (s : State) (b : RecordBody) : (s.highReports b).length = s.totals.highAfter 1 := by
  unfold State.highReports JournalTotals.highAfter
  dsimp only
  by_cases h : s.totals.high = false ∧ s.totals.journal.length + 1 = 1792
  · rw [if_pos h, if_pos ⟨h.1, by omega, by omega⟩]
    rfl
  · rw [if_neg h, if_neg fun ⟨hf, _, _⟩ => h ⟨hf, by omega⟩]
    rfl

end Grown

/-! ### The entries that the moves push out (05 R90) -/

/-- The entries of the list `l` that `k` moves push out, the oldest first. -/
def pushedBy (l : List DoubtEntry) (k : Nat) : List DoubtEntry := l.take (l.length + k - 64)

/-- The Doubt List with a new entry, once a full one has lost its oldest. -/
def SaleEngine.placed (e : SaleEngine) (x : DoubtEntry) : List DoubtEntry :=
  (if e.pushed.isSome then e.doubts.tail else e.doubts) ++ [x]

/-- A move pushes out the oldest entry of a full list, and the moves after it the rest. -/
theorem pushedBy_placed {e : SaleEngine} (x : DoubtEntry) {k : Nat} (hl : e.doubts.length ≤ 64) (hk : k < 64) :
    (e.placed x).length ≤ 64 ∧ pushedBy e.doubts (k + 1) = e.pushed.toList ++ pushedBy (e.placed x) k ∧
      (e.placed x).drop (pushedBy (e.placed x) k).length =
        e.doubts.drop (pushedBy e.doubts (k + 1)).length ++ [x] := by
  by_cases hfull : 64 ≤ e.doubts.length
  · obtain ⟨d, tail, hd⟩ := List.exists_cons_of_length_pos (l := e.doubts) (by omega)
    have htail : tail.length = 63 := by
      rw [hd, List.length_cons] at hl hfull
      omega
    have hpushed : e.pushed = some d := (if_pos hfull).trans (by rw [hd]; rfl)
    have hplaced : e.placed x = tail ++ [x] := by simp [SaleEngine.placed, hpushed, hd]
    have hfirst : pushedBy e.doubts (k + 1) = d :: tail.take k := by
      rw [pushedBy, hd, List.length_cons, htail, show 63 + 1 + (k + 1) - 64 = k + 1 by omega, List.take_succ_cons]
    have hrest : pushedBy (tail ++ [x]) k = tail.take k := by
      rw [pushedBy, List.length_append, List.length_singleton, htail, show 63 + 1 + k - 64 = k by omega,
        List.take_append_of_le_length (by omega)]
    rw [hplaced, hrest, hfirst, hpushed, hd]
    refine ⟨by simp [htail], rfl, ?_⟩
    rw [List.length_cons, List.length_take, List.drop_succ_cons, htail, min_eq_left (by omega),
      List.drop_append_of_le_length (by omega)]
  · have hpushed : e.pushed = none := if_neg hfull
    have hplaced : e.placed x = e.doubts ++ [x] := by simp [SaleEngine.placed, hpushed]
    have hsame : pushedBy (e.doubts ++ [x]) k = pushedBy e.doubts (k + 1) := by
      rw [pushedBy, pushedBy, List.length_append, List.length_singleton,
        show e.doubts.length + 1 + k - 64 = e.doubts.length + (k + 1) - 64 by omega,
        List.take_append_of_le_length (by omega)]
    rw [hplaced, hsame, hpushed]
    refine ⟨by rw [List.length_append, List.length_singleton]; omega, rfl, ?_⟩
    rw [List.drop_append_of_le_length]
    exact (List.length_take_le' _ _)

/-! ### The moves (04 R82, R86) -/

/-- A record of a card once the entries `es` have been pushed out and the contexts `cs` moved. -/
def CardRecord.afterMoves (es : List DoubtEntry) (cs : List Context) (r : CardRecord) : CardRecord :=
  { r with
    inUse := if ∃ c ∈ cs, c.data.card = r.card then none else r.inUse
    doubt := if ∃ c ∈ cs, c.data.card = r.card then true
      else if ∃ e ∈ es, e.data.card = r.card then false else r.doubt }

theorem afterMoves_nil (r : CardRecord) : r.afterMoves [] [] = r := by
  simp [CardRecord.afterMoves]

theorem afterMoves_step {es ds : List DoubtEntry} {cs : List Context} {c : Context}
    (hother : ∀ e ∈ ds, e.data.card ≠ c.data.card) (r x : CardRecord)
    (hx : x = (if r.card = c.data.card then ({ r with inUse := none, doubt := true } : CardRecord)
      else { r with doubt := if ∃ e ∈ es, e.data.card = r.card then false else r.doubt })) :
    x.afterMoves ds cs = r.afterMoves (es ++ ds) (c :: cs) := by
  subst hx
  by_cases hr : r.card = c.data.card
  · have hno : ¬ ∃ e ∈ ds, e.data.card = r.card := fun ⟨e, he, hcard⟩ => hother e he (hcard.trans hr)
    have hin : ∃ x ∈ c :: cs, x.data.card = r.card := ⟨c, List.mem_cons_self, hr.symm⟩
    simp only [if_pos hr, CardRecord.afterMoves, if_neg hno, if_pos hin, ite_self]
  · have hmem : (∃ x ∈ c :: cs, x.data.card = r.card) ↔ ∃ x ∈ cs, x.data.card = r.card := by
      simp only [List.exists_mem_cons_iff, Ne.symm hr, false_or]
    have hboth : (∃ e ∈ es ++ ds, e.data.card = r.card) ↔
        (∃ e ∈ es, e.data.card = r.card) ∨ ∃ e ∈ ds, e.data.card = r.card := by
      simp only [List.mem_append, or_and_right, exists_or]
    simp only [if_neg hr, CardRecord.afterMoves, hmem, hboth]
    by_cases hes : ∃ e ∈ es, e.data.card = r.card <;> by_cases hds : ∃ e ∈ ds, e.data.card = r.card <;>
      simp only [hes, hds, if_true, if_false, or_self, or_false, false_or, ite_self]

/-- The state after the moves of `cs`, which push out the entries `es`. -/
structure Moved (s : State) (cs : List Context) (es : List DoubtEntry) (t : State) : Prop extends
    Released s cs t where
  doubts : t.sale.doubts = s.sale.doubts.drop es.length ++
    cs.map fun c => { data := c.data, created := s.time, cause := .warmStart }
  credits : t.sale.credits = removeOrders (es.flatMap (·.data.riding)) s.sale.credits
  memory : t.sale.memory = s.sale.memory.map (CardRecord.afterMoves es cs)
  notes : t.sale.lastClosed =
    es.foldl (fun l e => stationSet l e.data.station (some ⟨e.data.sale, .unresolved⟩)) s.sale.lastClosed
  grown : Grown s.totals s.time (es.map fun e => e.data.record .unresolved) t.totals
  office : ∃ rs : List Report, t.office = s.office.reported rs ∧
    rs.length = cs.length + es.length + s.totals.highAfter es.length

theorem numbered_moved {s : State} {c : Context} (hn : s.sale.Numbered) (hc : c ∈ s.sale.contexts)
    (cause : DoubtCause) : (s.moveToDoubt c cause).sale.Numbered := by
  have h := moveToDoubt_isMove hn c cause
  obtain ⟨-, hcounter, -⟩ := h.engine
  obtain ⟨-, -, hapart⟩ := List.nodup_append.mp hn.distinct
  have hmem : c.data.sale ∈ s.sale.contexts.map (·.data.sale) := List.mem_map_of_mem hc
  have hrest : (if s.sale.pushed.isSome then s.sale.doubts.tail else s.sale.doubts).Sublist s.sale.doubts := by
    split
    · exact List.tail_sublist _
    · exact .refl _
  have hheld : (s.moveToDoubt c cause).sale.heldNumbers.Perm (c.data.sale ::
      ((s.sale.contexts.filter fun x => x.data.sale ≠ c.data.sale).map (·.data.sale) ++
        (if s.sale.pushed.isSome then s.sale.doubts.tail else s.sale.doubts).map (·.data.sale))) := by
    rw [SaleEngine.heldNumbers, h.contexts, h.doubts, List.map_append, ← List.append_assoc]
    exact List.perm_append_singleton _ _
  have hothers := (List.filter_sublist (p := fun x => decide (x.data.sale ≠ c.data.sale)) (l := s.sale.contexts)).map
    (·.data.sale) |>.append (hrest.map (·.data.sale))
  refine ⟨hheld.nodup_iff.mpr (List.nodup_cons.mpr ⟨fun hin => ?_, hothers.nodup hn.distinct⟩), fun n hn' => ?_,
    hcounter ▸ hn.counter_pos, hcounter ▸ hn.counter_le⟩
  · rcases List.mem_append.mp hin with hin | hin
    · obtain ⟨x, hx, hsale⟩ := List.mem_map.mp hin
      exact of_decide_eq_true (List.mem_filter.mp hx).2 hsale
    · exact hapart _ hmem _ ((hrest.map _).subset hin) rfl
  · rcases List.mem_cons.mp (hheld.subset hn') with rfl | hin
    · exact hn.range _ (List.mem_append_left _ hmem)
    · exact hn.range n (hothers.subset hin)

/-- One move, in terms of the entries that it pushes out. -/
structure MovedOne (s : State) (c : Context) (es : List DoubtEntry) (t : State) : Prop where
  credits : t.sale.credits = removeOrders (es.flatMap (·.data.riding)) s.sale.credits
  memory : t.sale.memory = s.sale.memory.map fun r =>
    if r.card = c.data.card then ({ r with inUse := none, doubt := true } : CardRecord)
    else { r with doubt := if ∃ e ∈ es, e.data.card = r.card then false else r.doubt }
  notes : t.sale.lastClosed =
    es.foldl (fun l e => stationSet l e.data.station (some ⟨e.data.sale, .unresolved⟩)) s.sale.lastClosed
  grown : Grown s.totals s.time (es.map fun e => e.data.record .unresolved) t.totals
  office : ∃ rs : List Report, t.office = s.office.reported rs ∧
    rs.length = 1 + es.length + s.totals.highAfter es.length

theorem removeOrders_nil (l : List CreditOrder) : removeOrders [] l = l :=
  List.filter_eq_self.mpr (by simp)

theorem highAfter_zero (j : JournalTotals) : j.highAfter 0 = 0 :=
  if_neg fun ⟨_, hlt, hle⟩ => absurd hlt (Nat.not_lt.mpr hle)

theorem moveToDoubt_movedOne {s : State} (hn : s.sale.Numbered) (hcalm : s.Calm) (c : Context)
    (cause : DoubtCause) : MovedOne s c s.sale.pushed.toList (s.moveToDoubt c cause) := by
  have h := moveToDoubt_isMove hn c cause
  have hoffice := h.office
  rw [leavingReports_of_calm hcalm, List.append_nil] at hoffice
  cases hp : s.sale.pushed with
  | none =>
    have hcredits := h.credits
    have htotals := h.totals
    have hmemory := h.memory
    have hnotes := h.notes
    simp only [hp] at hcredits htotals hmemory hnotes hoffice
    refine ⟨?_, ?_, hnotes, ?_, _, hoffice, ?_⟩
    · simpa [removeOrders_nil] using hcredits
    · rw [hmemory, updateCard]
      refine List.map_congr_left fun r _ => ?_
      simp [CardRecord.setDoubt, CardRecord.setInUse]
    · rw [htotals]
      exact .nil _ _
    · simp [highAfter_zero]
  | some e =>
    have hcredits := h.credits
    have htotals := h.totals
    have hmemory := h.memory
    have hnotes := h.notes
    simp only [hp] at hcredits htotals hmemory hnotes hoffice
    refine ⟨?_, ?_, hnotes, ?_, _, hoffice, ?_⟩
    · simpa using hcredits
    · rw [hmemory, updateCard, updateCard, List.map_map]
      refine List.map_congr_left fun r _ => ?_
      by_cases he : r.card = e.data.card <;> by_cases hc : r.card = c.data.card <;>
        simp_all [CardRecord.setDoubt, CardRecord.setInUse, eq_comm]
    · rw [htotals]
      exact totalsAfter_grown s (.inr rfl)
    · simp only [List.length_append, length_highReports, List.length_singleton, Option.toList_some]
      omega

/-- The doubt entry a warm start makes of a context (05 R90). -/
def State.startEntry (s : State) (c : Context) : DoubtEntry :=
  { data := c.data, created := s.time, cause := .warmStart }

/-- The moves of a warm start, one context after another. -/
theorem moveAll_moved {s : State} (cs : List Context) (hn : s.sale.Numbered) (hcalm : s.Calm)
    (hdoubts : s.sale.doubts.length ≤ 64) (hfew : cs.length ≤ 64) (hmem : ∀ c ∈ cs, c ∈ s.sale.contexts)
    (hsales : (cs.map (·.data.sale)).Nodup) (hcards : (cs.map (·.data.card)).Nodup)
    (hapart : ∀ e ∈ s.sale.doubts, ∀ c ∈ cs, e.data.card ≠ c.data.card) :
    Moved s cs (pushedBy s.sale.doubts cs.length) (s.moveAll cs) := by
  unfold State.moveAll
  induction cs generalizing s with
  | nil =>
    have hnone : pushedBy s.sale.doubts 0 = [] := by
      rw [pushedBy, show s.sale.doubts.length + 0 - 64 = 0 by omega, List.take_zero]
    rw [List.length_nil, hnone]
    exact ⟨.nil s, by simp, (removeOrders_nil _).symm, (List.map_id'' afterMoves_nil _).symm, rfl, .nil _ _, [], rfl,
      by simp [highAfter_zero]⟩
  | cons c cs ih =>
    rw [List.map_cons, List.nodup_cons] at hsales hcards
    rw [List.length_cons] at hfew
    have hin := hmem c List.mem_cons_self
    have hmove := moveToDoubt_isMove hn c .warmStart
    have hone := moveToDoubt_movedOne hn hcalm c .warmStart
    have hreleased := moveToDoubt_released hn hcalm c .warmStart
    obtain ⟨-, -, -, hclock, -⟩ := hmove.others
    have htime : (s.moveToDoubt c .warmStart).time = s.time := by rw [State.time, hclock]; rfl
    obtain ⟨hsize, hpushed, hdrop⟩ := pushedBy_placed (e := s.sale) (k := cs.length) (s.startEntry c) hdoubts (by omega)
    have hplaced : (s.moveToDoubt c .warmStart).sale.doubts = s.sale.placed (s.startEntry c) := hmove.doubts
    have hrest := ih (numbered_moved hn hin .warmStart) (hreleased.calm hcalm) (hplaced ▸ hsize) (by omega)
      (fun x hx => by
        rw [hmove.contexts, List.mem_filter]
        exact ⟨hmem x (List.mem_cons_of_mem c hx), decide_eq_true fun heq =>
          hsales.1 (heq ▸ List.mem_map_of_mem hx)⟩)
      hsales.2 hcards.2
      (fun e he x hx => by
        rw [hmove.doubts] at he
        rcases List.mem_append.mp he with he | he
        · refine hapart e ?_ x (List.mem_cons_of_mem c hx)
          split at he
          · exact List.mem_of_mem_tail he
          · exact he
        · rw [List.mem_singleton.mp he]
          exact fun heq => hcards.1 (heq ▸ List.mem_map_of_mem hx))
    rw [hplaced] at hrest
    rw [List.length_cons, hpushed, List.foldl_cons]
    obtain ⟨rs, hrs, hcount⟩ := hone.office
    obtain ⟨qs, hqs, hcount'⟩ := hrest.office
    have hothers : ∀ e ∈ pushedBy (s.sale.placed (s.startEntry c)) cs.length, e.data.card ≠ c.data.card := fun e he => by
      have hold : e ∈ pushedBy s.sale.doubts (cs.length + 1) := hpushed ▸ List.mem_append_right _ he
      exact hapart e (List.mem_of_mem_take hold) c List.mem_cons_self
    refine ⟨hreleased.trans hrest.toReleased, ?_, ?_, ?_, ?_, ?_, rs ++ qs, ?_, ?_⟩
    · rw [hrest.doubts, hplaced, hdrop, htime, ← hpushed, List.map_cons, List.append_assoc, List.singleton_append, State.startEntry]
    · rw [hrest.credits, hone.credits, List.flatMap_append, removeOrders_append]
    · rw [hrest.memory, hone.memory, List.map_map]
      exact List.map_congr_left fun r _ => afterMoves_step hothers r _ rfl
    · rw [hrest.notes, hone.notes, List.foldl_append]
    · rw [List.map_append]
      exact hone.grown.trans (htime ▸ hrest.grown)
    · rw [hqs, hrs, reported_append]
    · have hhigh := hone.grown.highAfter (pushedBy (s.sale.placed (s.startEntry c)) cs.length).length
      rw [List.length_map] at hhigh
      simp only [List.length_append, List.length_cons, hcount, hcount', hhigh]
      omega

end Sys2Proof.Machine

/-! PROOFS. The warm start whole, and the cold start (O60). -/

namespace Sys2Proof.Machine

open Sys2Proof

/-! ### The state before the ends and the moves -/

/-- The office line and the lanes warmed, the requests dropped and the work queue empty. -/
def State.warmReady (s : State) : State :=
  { s with
    office := s.office.warmed
    hall := { s.hall with startDue := none, inbox := [] }
    laneA := s.laneA.warmed
    laneB := s.laneB.warmed
    sale := { s.sale with queue := [] }
    decoder := { s.decoder with inbox := [] }
    tariff := { s.tariff with inbox := [] }
    clock := { s.clock with inbox := [] }
    totals := { s.totals with inbox := [] } }

/-- The state once every context has been ended or moved. -/
def State.warmMoved (s : State) : State := (s.warmReady.voidAll s.sale.unsent).moveAll s.sale.ordered

theorem warmStart_eq (s : State) (cause : WarmCause) : s.warmStart cause =
    (s.warmMoved.warmReport cause s.sale.unsent.length s.sale.ordered.length).recompute .warmStart := rfl

section WarmStart

variable {s : State}

theorem station_warmReady (s : State) (st : StationId) : s.warmReady.station st = (s.station st).warmed := by
  rcases st with ⟨_ | _, a⟩ <;> exact Eight.get_map ..

theorem calm_warmReady (s : State) : s.warmReady.Calm := fun st => by
  rw [station_warmReady]
  unfold StationRecord.warmed
  dsimp only
  split <;> exact ⟨rfl, rfl⟩

/-- The contexts are those that are ended and those that are moved. -/
theorem mem_contexts_iff {c : Context} : c ∈ s.sale.contexts ↔ c ∈ s.sale.unsent ++ s.sale.ordered := by
  simp only [SaleEngine.unsent, SaleEngine.ordered, List.mem_append, List.mem_filter, decide_eq_true_eq,
    ← and_or_left, em, and_true]

theorem numbered_voided {cs : List Context} {t : State} (h : Voided s cs t) (hn : s.sale.Numbered) :
    t.sale.Numbered := by
  obtain ⟨-, hcounter, -⟩ := h.engine
  have hsub : t.sale.heldNumbers.Sublist s.sale.heldNumbers := by
    rw [SaleEngine.heldNumbers, h.contexts, h.doubts]
    exact (List.filter_sublist.map _).append (.refl _)
  exact ⟨hsub.nodup hn.distinct, fun n hmem => hn.range n (hsub.subset hmem), hcounter ▸ hn.counter_pos,
    hcounter ▸ hn.counter_le⟩

/-- What a warm start's ends and moves come to. -/
theorem warmMoved_moved (hn : s.sale.Numbered) (hc : s.sale.CardsHeld) :
    Voided s.warmReady s.sale.unsent (s.warmReady.voidAll s.sale.unsent) ∧
      Moved (s.warmReady.voidAll s.sale.unsent) s.sale.ordered s.sale.pushedByStart s.warmMoved := by
  have hvoided := voidAll_voided (calm_warmReady s) s.sale.unsent
  have hcontexts : (s.warmReady.voidAll s.sale.unsent).sale.contexts = s.sale.ordered :=
    hvoided.contexts.trans (ordered_left hn.contexts_nodup)
  have hdoubts : (s.warmReady.voidAll s.sale.unsent).sale.doubts = s.sale.doubts := hvoided.doubts
  have hsub : s.sale.ordered.Sublist s.sale.contexts := List.filter_sublist
  have hfew : s.sale.ordered.length ≤ 16 :=
    hsub.length_le.trans (by simpa using length_of_stations hc.stations)
  have hcards := hc.cards
  simp only [SaleEngine.inFlight, List.map_append, List.map_map] at hcards
  obtain ⟨hcontextCards, -, hapart⟩ := List.nodup_append.mp hcards
  have hready : (s.warmReady).sale.Numbered := ⟨hn.distinct, hn.range, hn.counter_pos, hn.counter_le⟩
  have hmoved := moveAll_moved s.sale.ordered (numbered_voided hvoided hready)
    (hvoided.calm (calm_warmReady s)) (hdoubts ▸ hc.doubts) (by omega) (fun c hmem => hcontexts ▸ hmem)
    ((hsub.map _).nodup hn.contexts_nodup) ((hsub.map _).nodup hcontextCards)
    (fun e he c hmem heq => hapart _ (List.mem_map_of_mem (hsub.subset hmem)) _
      (List.mem_map_of_mem (hdoubts ▸ he)) heq.symm)
  rw [hdoubts] at hmoved
  exact ⟨hvoided, hmoved⟩

/-- 12 R191: while no frame is being sent, reports that join a queue leave all but the queue and the overflow
indication. -/
theorem reported_unsent {o : OfficeLink} (hsending : o.sending = none) (hsize : o.reports.length ≤ 32)
    (rs xs : List Report) : { o.reported rs with reports := xs } =
      { o with reports := xs, overflow := o.overflow || decide (32 < o.reports.length + rs.length) } := by
  induction rs generalizing o with
  | nil => simp [Nat.not_lt.mpr hsize]
  | cons r rs ih =>
    rw [reported_cons, List.length_cons]
    by_cases hroom : o.reports.length < 32
    · have hjoined : o.queueReport r = { o with reports := o.reports ++ [r] } := if_pos hroom
      rw [hjoined]
      refine (ih (o := { o with reports := o.reports ++ [r] }) hsending
        (by rw [List.length_append, List.length_singleton]; exact hroom)).trans ?_
      simp [Nat.add_assoc, Nat.add_comm 1]
    · have hdropped : o.queueReport r = { o with overflow := true } :=
        (if_neg hroom).trans (by rw [hsending]; rfl)
      rw [hdropped]
      refine (ih (o := { o with overflow := true }) hsending hsize).trans ?_
      have hover : 32 < o.reports.length + (rs.length + 1) := by omega
      simp [hover]

/-- The warm start of one station's record (09 R162). -/
theorem warmed_eq (r : StationRecord) : r.warmed = { r with
    state := if r.state = .doubtful ∨ r.state = .dropped ∨ r.state = .held then .good else r.state
    score := if r.state = .absent ∨ r.state = .pending then r.score else 0
    cleanCalls := if r.state = .absent ∨ r.state = .pending then r.cleanCalls else 0
    waits := if r.state = .absent ∨ r.state = .pending then r.waits else 0
    silent := if r.state = .pending then 0 else r.silent
    slot := none, busy := none, outstanding := none, lastRequest := none, leaveRequested := false } := by
  unfold StationRecord.warmed
  dsimp only
  cases hs : r.state <;> simp

/-- Step 3 of the warm start: WARM_START is the only report. -/
theorem warmReport_eq (t : State) (cause : WarmCause) (voided moved : Nat) : t.warmReport cause voided moved =
    { t with office := { t.office with
        reports := [.warmStart cause (t.hall.entryFor cause) t.time t.hall.mode voided moved] } } := rfl

/-- The records of the cards after the ends and the moves. -/
theorem afterMoves_void (es : List DoubtEntry) (r : CardRecord) :
    ({ r with inUse := if ∃ c ∈ s.sale.unsent, c.data.card = r.card then none else r.inUse } :
      CardRecord).afterMoves es s.sale.ordered =
    { r with
      inUse := if ∃ c ∈ s.sale.contexts, c.data.card = r.card then none else r.inUse
      doubt := if ∃ c ∈ s.sale.ordered, c.data.card = r.card then true
        else if ∃ e ∈ es, e.data.card = r.card then false else r.doubt } := by
  have hsplit : (∃ c ∈ s.sale.contexts, c.data.card = r.card) ↔
      (∃ c ∈ s.sale.unsent, c.data.card = r.card) ∨ ∃ c ∈ s.sale.ordered, c.data.card = r.card := by
    simp only [mem_contexts_iff, List.mem_append, or_and_right, exists_or]
  by_cases hunsent : ∃ c ∈ s.sale.unsent, c.data.card = r.card <;>
    simp [CardRecord.afterMoves, hsplit, hunsent]

theorem warmStart_isWarmStart (hn : s.sale.Numbered) (hc : s.sale.CardsHeld) (ho : s.office.Within)
    (cause : WarmCause) : IsWarmStart s cause (s.warmStart cause) := by
  obtain ⟨hvoided, hmoved⟩ := warmMoved_moved hn hc
  have hreleased := hvoided.toReleased.trans hmoved.toReleased
  obtain ⟨hqueue, hcounter, htimer, hdeliveries, hlosses⟩ := hreleased.engine
  obtain ⟨hhall, hdecoder, htariff, hclock, hpending⟩ := hreleased.others
  obtain ⟨-, -, -, hvoidedClock, -⟩ := hvoided.others
  have hvoidedTime : (s.warmReady.voidAll s.sale.unsent).time = s.time := by
    rw [State.time, hvoidedClock]; rfl
  have htime : s.warmMoved.time = s.time := by rw [State.time, hclock]; rfl
  have hgrown := hmoved.grown
  rw [hvoided.totals, hvoidedTime] at hgrown
  have hrecords := hgrown.records
  have hhigh := hgrown.high
  rw [List.length_map] at hhigh
  rw [List.map_map] at hrecords
  obtain ⟨rs, hoffice, hcount⟩ := hmoved.office
  rw [hvoided.office] at hoffice
  rw [hvoided.totals] at hcount
  have hraised : (s.warmMoved.warmReport cause s.sale.unsent.length s.sale.ordered.length).raised .warmStart =
      if s.clock.recomputed.stamp = s.clock.stamp then []
      else [⟨s.clock.stamp, s.clock.recomputed.stamp, s.clock.recomputed.kind, .warmStart, s.time⟩] := by
    rw [State.raised, warmReport_eq, hclock]
    rfl
  rw [warmStart_eq, recompute_eq, hraised, warmReport_eq, htime, hhall, hclock]
  refine {
    office := ?_
    queues := ⟨hqueue, ?_⟩
    kept := ⟨hcounter, htimer, hdeliveries, hlosses⟩
    doubts := ?_
    credits := ?_
    memory := ?_
    notes := ?_
    journal := ⟨hgrown.journal, hrecords⟩
    numbers := fun hnone => hgrown.numbers (by rw [hnone]; rfl)
    totals := hgrown.totals
    high := hhigh
    stations := ?_
    lanes := ?_
    hall := rfl
    decoder := hdecoder
    clock := rfl
    tariff := ⟨_, rfl, ?_, ?_, hgrown.queues.2⟩
    pending := hpending }
  · have hsize : s.office.warmed.reports.length ≤ 32 := ho.reports
    have hreports := congrArg (fun o => { o with reports := [Report.warmStart cause
      (s.warmReady.hall.entryFor cause) s.time s.hall.mode s.sale.unsent.length s.sale.ordered.length] }) hoffice
    refine hreports.trans ((reported_unsent rfl hsize rs _).trans ?_)
    have hentry : s.warmReady.hall.entryFor cause = if cause = .softReset then none else s.hall.entryTime := by
      cases cause <;> rfl
    rw [hcount, hentry, ← Nat.add_assoc, ← Nat.add_assoc]
    rfl
  · rw [hreleased.contexts]
    refine List.filter_eq_nil_iff.mpr fun c hmem => ?_
    have hin := List.mem_map_of_mem (f := (·.data.sale)) (mem_contexts_iff.mp hmem)
    exact fun hout => of_decide_eq_true hout hin
  · rw [hmoved.doubts, hvoided.doubts, hvoidedTime]; rfl
  · rw [hmoved.credits, hvoided.credits]; rfl
  · rw [hmoved.memory, hvoided.memory, List.map_map]
    exact List.map_congr_left fun r _ => afterMoves_void _ r
  · rw [hmoved.notes, hvoided.notes]; rfl
  · intro st
    refine (hreleased.stations st).trans ?_
    rw [station_warmReady, warmed_eq]
    simp only [mem_contexts_iff]
  · intro l
    have hlane := hreleased.lanes l
    cases l <;> exact hlane
  · rw [htariff]; rfl
  · exact congrArg (· ++ _) hgrown.queues.1

end WarmStart

/-- Settles O60: the steps of a warm start in order, each context ended or moved by the rule of its own. -/
theorem starts : Obligations.Starts := by
  refine ⟨fun s cause hpower hreset hdue hn hc ho => ?_, fun s byLatch hpower hreset hdue => ?_⟩
  · have hstart := warmStart_isWarmStart hn hc ho cause
    refine ⟨s.warmStart cause, ?_, hstart, ?_, fun hmoved => ?_⟩
    · rw [exec, execWarmStart, hpower, hreset, hdue]
    · rw [started_iff, hstart.hall]
      exact ⟨hpower, hreset, rfl⟩
    · obtain ⟨events, hevents, htariff, -⟩ := hstart.tariff
      rw [← Bool.not_eq_true, running_iff_events]
      rintro ⟨-, hnone, -⟩
      rw [htariff, hevents, if_neg hmoved] at hnone
      exact hnone _ (List.mem_append_right _ (List.mem_singleton_self _)) rfl
  · rw [exec, execColdStart, hpower, hreset, hdue]
    cases byLatch <;> simp [State.coldStart]

end Sys2Proof.Machine

/-! PROOFS. The work queue and a station's record (04 R60; 09 R153 to R155, R158): what each change of the record keeps
of the law that ties an entry of the queue to the station's outstanding request. -/

namespace Sys2Proof.Machine

open Sys2Proof

/-- No entry of that station waits in the queue. -/
def FreeOf (st : StationId) (q : List Work) : Prop := ∀ n x, Work.station st n x ∉ q

namespace StationRecord

/-- A station's part of the law of the work queue. -/
structure Waits (r : StationRecord) (st : StationId) (q : List Work) : Prop where
  waiting : ∀ n x, Work.station st n x ∈ q → r.slot = none ∧ ∃ o, r.outstanding = some o ∧ o.request = n ∧
    (r.state = .absent ∨ r.state = .pending → o.orphaned = true)
  unasked : r.outstanding = none → r.slot = none
  orphaned : ∀ o ∈ r.outstanding, o.orphaned = true → r.slot = none

/-- `y` holds the slot and the outstanding request of `r`, and goes no further from being served. -/
structure Alike (r y : StationRecord) : Prop where
  slot : y.slot = r.slot
  outstanding : y.outstanding = r.outstanding
  unserved : y.state = .absent ∨ y.state = .pending → r.state = .absent ∨ r.state = .pending

section Waits

variable {r y : StationRecord} {st : StationId} {q : List Work}

theorem Alike.refl (r : StationRecord) : r.Alike r := ⟨rfl, rfl, id⟩

theorem Waits.alike (h : r.Waits st q) (ha : r.Alike y) : y.Waits st q := by
  obtain ⟨hslot, hout, hstate⟩ := ha
  refine ⟨fun n x hmem => ?_, ?_, ?_⟩
  · obtain ⟨hempty, o, ho, hn, horphan⟩ := h.waiting n x hmem
    exact ⟨hslot.trans hempty, o, hout.trans ho, hn, horphan ∘ hstate⟩
  · rw [hslot, hout]; exact h.unasked
  · rw [hslot, hout]; exact h.orphaned

theorem Waits.mono {q' : List Work} (h : r.Waits st q)
    (hq : ∀ n x, Work.station st n x ∈ q' → Work.station st n x ∈ q) : r.Waits st q' :=
  ⟨fun n x hmem => h.waiting n x (hq n x hmem), h.unasked, h.orphaned⟩

/-- A station with a reply in its slot has no entry in the queue. -/
theorem Waits.free_of_slot (h : r.Waits st q) (hs : r.slot ≠ none) : FreeOf st q :=
  fun n x hmem => hs (h.waiting n x hmem).1

/-- A station with no request outstanding has no entry in the queue. -/
theorem Waits.free_of_unasked (h : r.Waits st q) (ho : r.outstanding = none) : FreeOf st q := by
  intro n x hmem
  obtain ⟨-, o, hsome, -⟩ := h.waiting n x hmem
  exact absurd (ho.symm.trans hsome) nofun

/-- A record with an empty slot, whose station has no entry in the queue. -/
theorem waits_idle (hfree : FreeOf st q) (hs : y.slot = none) : y.Waits st q :=
  ⟨fun n x hmem => absurd hmem (hfree n x), fun _ => hs, fun _ _ _ => hs⟩

/-- A record with a reply in its slot to a request that is not orphaned. -/
theorem waits_replied {o : Outstanding} (hfree : FreeOf st q) (ho : y.outstanding = some o)
    (horphan : o.orphaned = false) : y.Waits st q := by
  refine ⟨fun n x hmem => absurd hmem (hfree n x), fun hnone => absurd (ho.symm.trans hnone) nofun, fun o' ho' h => ?_⟩
  obtain rfl := Option.some.inj (ho.symm.trans ho')
  exact absurd (horphan.symm.trans h) nofun

theorem Waits.withdraw (h : r.Waits st q) (n : Nat) : (r.withdraw n).Waits st q := by
  unfold StationRecord.withdraw
  split
  next hholds =>
    refine waits_idle (h.free_of_slot fun hnone => ?_) rfl
    simp [StationRecord.holdsOrder, hnone] at hholds
  · exact h

theorem Waits.confirm (h : r.Waits st q) (seen : Option Byte) : (r.confirm seen).Waits st q := by
  unfold StationRecord.confirm
  split
  next x hx =>
    split
    · exact waits_idle (h.free_of_slot (by rw [hx]; nofun)) rfl
    · exact h
  · exact h

/-- R155: the reply to a station whose entry has left the queue. -/
theorem Waits.takeReply (h : r.Waits st q) (hfree : FreeOf st q) (n : Byte) (reply : StationReply) :
    (r.takeReply n reply).Waits st q := by
  unfold StationRecord.takeReply
  split
  · exact h
  next o ho =>
    split
    next horphan => exact waits_idle hfree (h.orphaned o ho horphan)
    next horphan =>
      split
      · exact waits_replied hfree ho (Bool.not_eq_true _ ▸ horphan)
      · exact h

theorem Waits.polled (h : r.Waits st q) : r.polled.Waits st q := by
  have hslot : r.slot = none → r.polled.slot = none := fun hnone => by simp [StationRecord.polled, hnone]
  refine ⟨fun n x hmem => ?_, hslot ∘ h.unasked, fun o ho horphan => hslot (h.orphaned o ho horphan)⟩
  obtain ⟨hempty, hrest⟩ := h.waiting n x hmem
  exact ⟨hslot hempty, hrest⟩

theorem Waits.madeAbsent (h : r.Waits st q) : r.madeAbsent.Waits st q := by
  refine ⟨fun n x hmem => ⟨rfl, ?_⟩, fun _ => rfl, fun _ _ _ => rfl⟩
  obtain ⟨-, o, ho, hn, -⟩ := h.waiting n x hmem
  exact ⟨{ o with orphaned := true }, by simp [StationRecord.madeAbsent, ho], hn, fun _ => rfl⟩

/-- R158: a PENDING station goes with its entry in the queue, which is orphaned already. -/
theorem Waits.left (h : r.Waits st q) (hs : r.state = .pending) : (r.departed .leave).Waits st q := by
  refine ⟨fun n x hmem => ⟨rfl, ?_⟩, fun _ => rfl, fun _ _ _ => rfl⟩
  obtain ⟨-, o, ho, hn, horphan⟩ := h.waiting n x hmem
  have ho' := horphan (.inr hs)
  exact ⟨o, by simp [StationRecord.departed, ho, ho'], hn, fun _ => ho'⟩

theorem freed_alike (r : StationRecord) : r.Alike r.freed := by
  unfold StationRecord.freed
  split
  · exact ⟨rfl, rfl, by simp⟩
  · exact ⟨rfl, rfl, id⟩

/-- After a warm start nothing of a request is left at a station. -/
theorem warmed_waits (r : StationRecord) : r.warmed.Waits st [] := by
  rw [warmed_eq]
  exact waits_idle (fun _ _ => List.not_mem_nil) rfl

end Waits

end StationRecord

/-! ### The end of an exchange -/

/-- What a deed queues for the Sale Engine is its station's only entry, and the record it leaves goes with it. -/
structure Deed.Queues (d : Deed) (st : StationId) (r : StationRecord) : Prop where
  waits : ∀ q, r.Waits st q → d.record.Waits st (q ++ d.works)
  works : d.works = [] ∨ (∃ n x, d.works = [.station st n x]) ∧ ∀ q, r.Waits st q → FreeOf st q

section Deeds

variable {r y : StationRecord} {d e : Deed} {st : StationId} {now : Time} {settings : LaneSettings}

theorem queues_of_waits (hw : d.works = []) (h : ∀ q, r.Waits st q → d.record.Waits st q) : d.Queues st r :=
  ⟨fun q hq => by rw [hw, List.append_nil]; exact h q hq, .inl hw⟩

theorem queues_of_alike (h : d.works = [] ∧ r.Alike d.record) : d.Queues st r :=
  queues_of_waits h.1 fun _ hq => hq.alike h.2

theorem Deed.Queues.andThen (h : d.Queues st r) (he : e.works = [] ∧ d.record.Alike e.record) :
    (d.andThen e).Queues st r := by
  obtain ⟨hw, ha⟩ := he
  have hworks : (d.andThen e).works = d.works := by rw [Deed.andThen, hw, List.append_nil]
  refine ⟨fun q hq => ?_, hworks ▸ h.works⟩
  rw [hworks]
  exact (h.waits q hq).alike ha

/-- A deed done from the record that a change has left. -/
theorem Deed.Queues.after (h : d.Queues st y) (hr : ∀ q, r.Waits st q → y.Waits st q) : d.Queues st r :=
  ⟨fun q hq => h.waits q (hr q hq), h.works.imp id fun ⟨hone, hfree⟩ => ⟨hone, fun q hq => hfree q (hr q hq)⟩⟩

namespace StationRecord

theorem dropDeed_alike (mode : RecoveryMode) :
    (r.dropDeed st now mode).works = [] ∧ r.Alike (r.dropDeed st now mode).record := by
  unfold StationRecord.dropDeed
  dsimp only
  split <;> exact ⟨rfl, rfl, rfl, by simp⟩

theorem failDeed_alike (k : FailureKind) :
    (r.failDeed st now settings k).works = [] ∧ r.Alike (r.failDeed st now settings k).record := by
  unfold StationRecord.failDeed
  dsimp only
  split
  · obtain ⟨hworks, hslot, hout, hstate⟩ := dropDeed_alike
      (r := { r with waits := 0, errors := recordFailure settings.errors r.errors k }) (st := st) (now := now)
      settings.recovery
    exact ⟨hworks, hslot, hout, hstate⟩
  · split
    · exact ⟨rfl, rfl, rfl, by simp⟩
    · exact ⟨rfl, rfl, rfl, id⟩

theorem passed_alike (n : Nat) : r.Alike (r.passed n) := by
  refine ⟨rfl, rfl, fun h => ?_⟩
  unfold StationRecord.passed at h
  dsimp only at h
  split at h
  · exact absurd h (by simp)
  · exact h

theorem scoreDeed_alike (a : Answer) :
    (r.scoreDeed st now settings a).works = [] ∧ r.Alike (r.scoreDeed st now settings a).record := by
  unfold StationRecord.scoreDeed
  split
  · split
    · exact failDeed_alike .waitLimit
    · exact ⟨rfl, passed_alike _⟩
  · exact ⟨rfl, passed_alike _⟩

theorem callDeed_alike (mode : RecoveryMode) :
    (r.callDeed st now mode).works = [] ∧ r.Alike (r.callDeed st now mode).record := by
  unfold StationRecord.callDeed
  dsimp only
  split
  · split
    · exact ⟨rfl, rfl, rfl, by simp⟩
    · exact ⟨rfl, rfl, rfl, by simp⟩
    · exact ⟨rfl, rfl, rfl, id⟩
  · exact ⟨rfl, rfl, rfl, id⟩

theorem leaveDeed_alike : (r.leaveDeed st).works = [] ∧ r.Alike (r.leaveDeed st).record := by
  unfold StationRecord.leaveDeed
  split
  · exact ⟨rfl, rfl, rfl, by simp⟩
  · exact ⟨rfl, rfl, rfl, id⟩

/-- R154: a request is queued only for a station with no request outstanding. -/
theorem admitDeed_queues (hs : r.state ≠ .absent) (n : Byte) (q : StationRequest) :
    (r.admitDeed st n q).Queues st r := by
  unfold StationRecord.admitDeed
  split_ifs with hrepeat hbusy hpending
  · exact queues_of_alike ⟨rfl, .refl r⟩
  · exact queues_of_alike ⟨rfl, rfl, rfl, id⟩
  · rw [not_not] at hbusy
    exact queues_of_waits rfl fun _ hq => waits_replied (hq.free_of_unasked hbusy) rfl rfl
  · rw [not_not] at hbusy
    refine ⟨fun works hq => ?_, .inr ⟨⟨n, q, rfl⟩, fun _ hq => hq.free_of_unasked hbusy⟩⟩
    refine ⟨fun m x hmem => ⟨hq.unasked hbusy, _, rfl, ?_, ?_⟩, nofun, fun _ _ _ => hq.unasked hbusy⟩
    · rcases List.mem_append.mp hmem with hmem | hmem
      · exact absurd hmem (hq.free_of_unasked hbusy m x)
      · rw [List.mem_singleton, Work.station.injEq] at hmem
        exact hmem.2.1.symm
    · rintro (habsent | hp)
      · exact absurd habsent hs
      · exact absurd hp hpending

theorem answerDeed_queues (k : PollKind) (a : Answer) : (r.answerDeed st k a).Queues st r := by
  have heard : r.Alike { r with silent := 0 } := ⟨rfl, rfl, id⟩
  unfold StationRecord.answerDeed
  split
  next hs =>
    split
    · exact queues_of_alike ⟨rfl, rfl, rfl, fun _ => .inl hs⟩
    · exact queues_of_alike ⟨rfl, .refl r⟩
  next hs =>
    split
    · exact (admitDeed_queues (by simp [hs]) _ _).after fun _ hq => hq.alike heard
    · exact queues_of_waits rfl fun _ hq => (hq.alike heard).left hs
    · exact queues_of_alike ⟨rfl, heard⟩
  next hs =>
    split
    · exact admitDeed_queues (by simp [hs]) _ _
    · exact queues_of_alike leaveDeed_alike
    · exact queues_of_alike ⟨rfl, .refl r⟩
  next hs =>
    split
    · exact admitDeed_queues (by simp [hs]) _ _
    · exact queues_of_alike leaveDeed_alike
    · exact queues_of_alike ⟨rfl, .refl r⟩
  next hs =>
    split
    · exact admitDeed_queues (by simp [hs]) _ _
    · exact queues_of_alike ⟨rfl, .refl r⟩
  · exact queues_of_alike ⟨rfl, .refl r⟩
  · exact queues_of_alike ⟨rfl, .refl r⟩

theorem silentDeed_queues : (r.silentDeed st).Queues st r := by
  unfold StationRecord.silentDeed
  split
  · exact queues_of_waits rfl fun _ hq => hq.madeAbsent
  · exact queues_of_alike ⟨rfl, rfl, rfl, id⟩

theorem endDeed_queues (k : PollKind) (e : ExchangeEnd) : (r.endDeed st now settings k e).Queues st r := by
  have answered (a : Answer) : ((r.confirm a.lastSeen).answerDeed st k a).Queues st r :=
    (answerDeed_queues k a).after fun _ hq => hq.confirm a.lastSeen
  have failed (kind : FailureKind) : (r.failDeed st now settings kind).Queues st r :=
    queues_of_alike (failDeed_alike kind)
  have scored (a : Answer) := (answered a).andThen (scoreDeed_alike (st := st) (now := now) (settings := settings) a)
  unfold StationRecord.endDeed
  split
  next a =>
    split
    · exact scored a
    · exact scored a
    · exact scored a
    · exact (answered a).andThen (callDeed_alike _)
    · exact answered a
    · exact answered a
    · exact queues_of_alike ⟨rfl, .refl r⟩
  next kind =>
    split
    · exact failed kind
    · exact failed kind
    · exact failed kind
    · exact queues_of_alike ⟨rfl, rfl, rfl, id⟩
    · exact silentDeed_queues
    · exact queues_of_alike ⟨rfl, .refl r⟩
    · exact queues_of_alike ⟨rfl, .refl r⟩

end StationRecord

end Deeds

end Sys2Proof.Machine

/-! PROOFS. Every operation leaves each host request in its one place, takes it into the hand of its block or answers it
(12 R189), and keeps the law of the work queue (04 R60; 09 R154, R155). -/

namespace Sys2Proof.Machine

open Sys2Proof

/-! ### The law of the work queue, station by station -/

section Law

variable {s t : State}

theorem length_queue (q : List Work) :
    q.length = (q.filterMap Work.station?).length + (q.filterMap Work.tag?).length := by
  induction q with
  | nil => rfl
  | cons w q ih =>
    cases w with
    | station st n x =>
      rw [List.filterMap_cons_some (f := Work.station?) rfl, List.filterMap_cons_none (f := Work.tag?) rfl,
        List.length_cons, List.length_cons, ih]
      omega
    | host h =>
      rw [List.filterMap_cons_none (f := Work.station?) rfl, List.filterMap_cons_some (f := Work.tag?) rfl,
        List.length_cons, List.length_cons, ih]
      omega

theorem freeOf_iff {st : StationId} {q : List Work} : FreeOf st q ↔ st ∉ q.filterMap Work.station? := by
  rw [List.mem_filterMap]
  refine ⟨fun h ⟨w, hmem, hst⟩ => ?_, fun h n x hmem => h ⟨_, hmem, rfl⟩⟩
  cases w with
  | station su n x =>
    obtain rfl := Option.some.inj hst
    exact h n x hmem
  | host _ => cases hst

/-- The bound on the size follows from the others: there are 16 stations. -/
theorem queueLaw_iff : s.QueueLaw ↔ (s.sale.queue.filterMap Work.station?).Nodup ∧
    (s.sale.queue.filterMap Work.tag?).length ≤ 8 ∧ ∀ st, (s.station st).Waits st s.sale.queue := by
  refine ⟨fun h => ⟨h.stations, h.host, fun st => ⟨h.waiting st, h.unasked st, h.orphaned st⟩⟩, ?_⟩
  rintro ⟨hstations, hhost, hwaits⟩
  refine ⟨?_, hstations, hhost, fun st => (hwaits st).waiting, fun st => (hwaits st).unasked,
    fun st => (hwaits st).orphaned⟩
  have hfew := length_of_stations hstations
  rw [length_queue]
  show _ ≤ 24
  omega

theorem queueLaw_same (hq : t.sale.queue = s.sale.queue) (hs : ∀ st, t.station st = s.station st) :
    s.QueueLaw → t.QueueLaw := by
  simp only [queueLaw_iff, hq, hs]
  exact id

/-- Entries have left the queue. -/
theorem queueLaw_fewer {w : Work} (hq : s.sale.queue.Perm (w :: t.sale.queue))
    (hs : ∀ st, t.station st = s.station st) : s.QueueLaw → t.QueueLaw := by
  simp only [queueLaw_iff, hs]
  rintro ⟨hstations, hhost, hwaits⟩
  have hsub : t.sale.queue.Subperm s.sale.queue := (List.sublist_cons_self w _).subperm.trans hq.symm.subperm
  obtain ⟨q, hperm, hsublist⟩ := hsub
  refine ⟨(hperm.filterMap _).nodup_iff.mp ((hsublist.filterMap _).nodup hstations), ?_,
    fun st => (hwaits st).mono fun _ _ hx => hsublist.subset (hperm.symm.subset hx)⟩
  rw [← (hperm.filterMap _).length_eq]
  exact (hsublist.filterMap _).length_le.trans hhost

theorem queueLaw_setStation {st : StationId} {r : StationRecord}
    (hr : (s.station st).Waits st s.sale.queue → r.Waits st s.sale.queue) :
    s.QueueLaw → (s.setStation st r).QueueLaw := by
  simp only [queueLaw_iff, State.setStation_sale]
  rintro ⟨hstations, hhost, hwaits⟩
  refine ⟨hstations, hhost, fun su => ?_⟩
  by_cases hsu : su = st
  · subst hsu
    rw [station_setStation]
    exact hr (hwaits su)
  · rw [station_setStation_other s hsu]
    exact hwaits su

/-- R154: a deed at a station whose entry, if it queues one, is the station's only one. -/
theorem queueLaw_does {st : StationId} {d : Deed} (hd : d.Queues st (s.station st)) :
    s.QueueLaw → (s.does st d).QueueLaw := by
  simp only [queueLaw_iff, does_sale]
  rintro ⟨hstations, hhost, hwaits⟩
  have hother (su : StationId) (hsu : su ≠ st) : (s.station su).Waits su (s.sale.queue ++ d.works) := by
    refine ⟨fun n x hmem => ?_, (hwaits su).unasked, (hwaits su).orphaned⟩
    rcases List.mem_append.mp hmem with hmem | hmem
    · exact (hwaits su).waiting n x hmem
    · rcases hd.works with hnone | ⟨⟨m, y, hone⟩, -⟩
      · rw [hnone] at hmem
        cases hmem
      · rw [hone, List.mem_singleton, Work.station.injEq] at hmem
        exact absurd hmem.1 hsu
  refine ⟨?_, ?_, fun su => ?_⟩
  · rw [List.filterMap_append]
    rcases hd.works with hnone | ⟨⟨m, y, hone⟩, hfree⟩
    · rw [hnone]
      simpa using hstations
    · rw [hone]
      exact List.nodup_append.mpr ⟨hstations, List.nodup_singleton st, fun a ha b hb heq =>
        freeOf_iff.mp (hfree _ (hwaits st)) (List.mem_singleton.mp hb ▸ heq ▸ ha)⟩
  · rw [List.filterMap_append]
    rcases hd.works with hnone | ⟨⟨m, y, hone⟩, -⟩
    · rw [hnone]
      simpa using hhost
    · rw [hone, List.filterMap_cons_none (f := Work.tag?) rfl, List.filterMap_nil, List.append_nil]
      exact hhost
  · by_cases hsu : su = st
    · subst hsu
      rw [does_station]
      exact hd.waits _ (hwaits su)
    · rw [does_station_other s st d hsu]
      exact hother su hsu

end Law

/-! ### Where the requests are -/

/-- While the part does not stand still, the outstanding tags are those of `k`, whose requests are in hand, and those
held in a place. -/
def State.TagsWith (s : State) (k : List Byte) : Prop :=
  s.started → (s.office.tags.map (·.tag)).Perm (k ++ s.heldTags)

/-- The requests of `k` are in hand in `s`, and those of `k'` in `t`. -/
structure State.Accounts (s : State) (k : List Byte) (t : State) (k' : List Byte) : Prop where
  tags : s.TagsWith k → t.TagsWith k'
  queue : s.QueueLaw → t.QueueLaw

/-- Every host request is in `t` where it is in `s`. -/
structure State.Stands (s t : State) : Prop where
  started : t.started → s.started
  tags : t.office.tags = s.office.tags
  held : t.heldTags = s.heldTags

/-- So it is, and the law of the work queue is kept. -/
structure State.Leaves (s t : State) : Prop extends s.Stands t where
  queue : s.QueueLaw → t.QueueLaw

section Places

variable {s t u : State} {k k' k'' : List Byte}

theorem State.Accounts.trans (h : s.Accounts k t k') (h' : t.Accounts k' u k'') : s.Accounts k u k'' :=
  ⟨h'.tags ∘ h.tags, h'.queue ∘ h.queue⟩

theorem State.Leaves.refl (s : State) : s.Leaves s := ⟨⟨id, rfl, rfl⟩, id⟩

theorem State.Stands.trans (h : s.Stands t) (h' : t.Stands u) : s.Stands u :=
  ⟨h.started ∘ h'.started, h'.tags.trans h.tags, h'.held.trans h.held⟩

theorem State.Stands.tagsWith (h : s.Stands t) (hs : s.TagsWith k) : t.TagsWith k := fun ht => by
  rw [h.tags, h.held]
  exact hs (h.started ht)

theorem State.Leaves.trans (h : s.Leaves t) (h' : t.Leaves u) : s.Leaves u :=
  ⟨h.toStands.trans h'.toStands, h'.queue ∘ h.queue⟩

/-- Requests pass from their places into the hand, or back. -/
theorem accounts_of_perm (hstarted : t.started → s.started) (htags : t.office.tags = s.office.tags)
    (hheld : (k ++ s.heldTags).Perm (k' ++ t.heldTags)) (hq : s.QueueLaw → t.QueueLaw) : s.Accounts k t k' := by
  refine ⟨fun h ht => ?_, hq⟩
  rw [htags]
  exact (h (hstarted ht)).trans hheld

theorem State.Leaves.accounts (h : s.Leaves t) (k : List Byte) : s.Accounts k t k :=
  ⟨h.toStands.tagsWith, h.queue⟩

theorem State.Accounts.refl (s : State) (k : List Byte) : s.Accounts k s k := ⟨id, id⟩

/-- A part that stands still owes no account of the tags. -/
theorem accounts_still (h : t.started = false) (hq : s.QueueLaw → t.QueueLaw) : s.Accounts k t k' :=
  ⟨fun _ ht => absurd (h.symm.trans ht) nofun, hq⟩

/-! ### One block changed -/

theorem leaves_sale {x : SaleEngine} (hx : x.queue = s.sale.queue) : s.Leaves { s with sale := x } :=
  ⟨⟨id, rfl, by simp only [State.heldTags, hx]⟩, queueLaw_same hx fun _ => rfl⟩

theorem leaves_totals {x : JournalTotals} (hx : x.inbox = s.totals.inbox) : s.Leaves { s with totals := x } :=
  ⟨⟨id, rfl, by simp only [State.heldTags, hx]⟩, queueLaw_same rfl fun _ => rfl⟩

theorem leaves_tariff {x : TariffUnit} (hx : x.inbox = s.tariff.inbox) : s.Leaves { s with tariff := x } :=
  ⟨⟨id, rfl, by simp only [State.heldTags, hx]⟩, queueLaw_same rfl fun _ => rfl⟩

theorem leaves_clock {x : HallClock} (hx : x.inbox = s.clock.inbox) : s.Leaves { s with clock := x } :=
  ⟨⟨id, rfl, by simp only [State.heldTags, hx]⟩, queueLaw_same rfl fun _ => rfl⟩

theorem leaves_hall {x : HallControl} (hx : x.inbox = s.hall.inbox)
    (hstarted : ({ s with hall := x } : State).started → s.started) : s.Leaves { s with hall := x } :=
  ⟨⟨hstarted, rfl, by simp only [State.heldTags, hx]⟩, queueLaw_same rfl fun _ => rfl⟩

theorem leaves_office {x : OfficeLink} (htags : x.tags = s.office.tags) (hreplies : x.replies = s.office.replies)
    (hsending : x.sending.bind Sending.tag? = s.office.sending.bind Sending.tag?) :
    s.Leaves { s with office := x } :=
  ⟨⟨id, htags, by simp only [State.heldTags, hreplies, hsending]⟩, queueLaw_same rfl fun _ => rfl⟩

theorem stands_setLane {l : Lane} {x : LaneControl} (hx : x.inbox = (s.lane l).inbox) : s.Stands (s.setLane l x) := by
  cases l with
  | a => exact ⟨id, rfl, by simp only [State.heldTags, State.setLane, hx]; rfl⟩
  | b => exact ⟨id, rfl, by simp only [State.heldTags, State.setLane, hx]; rfl⟩

/-- A change of a lane that leaves its stations. -/
theorem queueLaw_lane {l : Lane} {x : LaneControl} (hstations : x.stations = (s.lane l).stations) :
    s.QueueLaw → (s.setLane l x).QueueLaw := by
  refine queueLaw_same (by rw [State.setLane_sale]) fun ⟨m, a⟩ => ?_
  show ((s.setLane l x).lane m).stations.get a = (s.lane m).stations.get a
  by_cases hm : m = l
  · subst hm
    rw [lane_setLane, hstations]
  · rw [lane_setLane_other s hm]

theorem leaves_lane {l : Lane} {x : LaneControl} (hx : x.inbox = (s.lane l).inbox)
    (hstations : x.stations = (s.lane l).stations) : s.Leaves (s.setLane l x) :=
  ⟨stands_setLane hx, queueLaw_lane hstations⟩

theorem stands_setStation (s : State) (st : StationId) (r : StationRecord) : s.Stands (s.setStation st r) :=
  stands_setLane rfl

theorem leaves_setStation {st : StationId} {r : StationRecord}
    (hr : (s.station st).Waits st s.sale.queue → r.Waits st s.sale.queue) : s.Leaves (s.setStation st r) :=
  ⟨stands_setStation .., queueLaw_setStation hr⟩

/-! ### The operations the blocks share -/

theorem sending_queueReport (o : OfficeLink) (r : Report) :
    (o.queueReport r).sending.bind Sending.tag? = o.sending.bind Sending.tag? := by
  unfold OfficeLink.queueReport
  split
  · rfl
  · cases o.sending <;> rfl

theorem sending_reported (o : OfficeLink) (rs : List Report) :
    (o.reported rs).sending.bind Sending.tag? = o.sending.bind Sending.tag? := by
  induction rs generalizing o with
  | nil => rfl
  | cons r rs ih => exact (ih _).trans (sending_queueReport o r)

theorem leaves_queueReport (s : State) (r : Report) : s.Leaves (s.queueReport r) :=
  leaves_office (queueReport_tags ..) (queueReport_replies ..) (sending_queueReport ..)

theorem leaves_giveReply {st : StationId} (hfree : FreeOf st s.sale.queue) (n : Byte) (r : StationReply) :
    s.Leaves (s.giveReply st n r) :=
  leaves_setStation fun h => h.takeReply hfree n r

theorem effect_queue (h : Effect s t) : t.sale.queue = s.sale.queue := by
  induction h with
  | start => rfl
  | sale _ hx ih => exact hx.trans ih
  | totals _ _ ih => exact ih
  | report _ _ ih => exact ih
  | opened _ _ _ ih => exact (congrArg (·.queue) (State.setStation_sale ..)).trans ih
  | freed _ _ ih => exact (congrArg (·.queue) (State.setStation_sale ..)).trans ih
  | withdrawn _ _ _ ih => exact (congrArg (·.queue) (State.setStation_sale ..)).trans ih

theorem leaves_effect (h : Effect s t) : s.Leaves t := by
  induction h with
  | start => exact .refl s
  | sale _ hx ih => exact ih.trans (leaves_sale hx)
  | totals _ hx ih => exact ih.trans (leaves_totals hx)
  | report _ r ih => exact ih.trans (leaves_queueReport _ r)
  | opened _ st n ih => exact ih.trans (leaves_setStation fun h => h.alike ⟨rfl, rfl, id⟩)
  | freed _ st ih => exact ih.trans (leaves_setStation fun h => h.alike (StationRecord.freed_alike _))
  | withdrawn _ st n ih => exact ih.trans (leaves_setStation fun h => h.withdraw n)

theorem stands_replied {st : StationId} {n : Byte} (h : Replied s st n t) : s.Stands t := by
  obtain ⟨u, r, hu, rfl⟩ := h
  exact (leaves_effect hu).toStands.trans (stands_setStation ..)

theorem queueLaw_replied {st : StationId} {n : Byte} (hfree : FreeOf st s.sale.queue) (h : Replied s st n t) :
    s.QueueLaw → t.QueueLaw := by
  obtain ⟨u, r, hu, rfl⟩ := h
  exact ((leaves_effect hu).trans (leaves_giveReply (effect_queue hu ▸ hfree) n r)).queue

theorem leaves_does {st : StationId} {d : Deed} (hd : d.Queues st (s.station st)) : s.Leaves (s.does st d) := by
  have hset := stands_setStation s st d.record
  have hworks : d.works.filterMap Work.tag? = [] := by
    rcases hd.works with hnone | ⟨⟨n, x, hone⟩, -⟩
    · rw [hnone]; rfl
    · rw [hone]; rfl
  refine ⟨⟨hset.started, reported_tags .., Eq.trans ?_ hset.held⟩, queueLaw_does hd⟩
  simp only [State.heldTags, State.does, List.filterMap_append, hworks, List.append_nil, reported_replies,
    sending_reported, State.setStation_office, State.setStation_sale]

/-! ### Taken into the hand, and answered -/

theorem accounts_reply (s : State) (x : Handed) (r : HostReply) : s.Accounts [x.tag] (s.reply x r) [] := by
  refine accounts_of_perm id rfl (List.perm_iff_count.mpr fun a => ?_) (queueLaw_same rfl fun _ => rfl)
  simp only [State.heldTags, State.reply, List.map_append, List.map_cons, List.map_nil, List.count_append,
    List.nil_append]
  omega

theorem State.Leaves.replied (h : s.Leaves t) (x : Handed) (r : HostReply) : s.Accounts [x.tag] (t.reply x r) [] :=
  (h.accounts _).trans (accounts_reply t x r)

section Taken

variable {x : Handed} {rest : List Handed}

theorem accounts_hallTaken (h : s.hall.inbox = x :: rest) : s.Accounts [] (s.hallTaken rest) [x.tag] := by
  refine accounts_of_perm id rfl (List.perm_iff_count.mpr fun a => ?_) (queueLaw_same rfl fun _ => rfl)
  simp only [State.heldTags, State.hallTaken, h, List.map_cons, List.count_append, List.count_cons, List.count_nil]
  omega

theorem accounts_clockTaken (h : s.clock.inbox = x :: rest) : s.Accounts [] (s.clockTaken rest) [x.tag] := by
  refine accounts_of_perm id rfl (List.perm_iff_count.mpr fun a => ?_) (queueLaw_same rfl fun _ => rfl)
  simp only [State.heldTags, State.clockTaken, h, List.map_cons, List.count_append, List.count_cons, List.count_nil]
  omega

theorem accounts_totals {y : JournalTotals} (h : s.totals.inbox = x :: rest) (hy : y.inbox = rest) :
    s.Accounts [] { s with totals := y } [x.tag] := by
  refine accounts_of_perm id rfl (List.perm_iff_count.mpr fun a => ?_) (queueLaw_same rfl fun _ => rfl)
  simp only [State.heldTags, h, hy, List.map_cons, List.count_append, List.count_cons, List.count_nil]
  omega

theorem accounts_decoder {y : Decoder} (h : s.decoder.inbox = x :: rest) (hy : y.inbox = rest) :
    s.Accounts [] { s with decoder := y } [x.tag] := by
  refine accounts_of_perm id rfl (List.perm_iff_count.mpr fun a => ?_) (queueLaw_same rfl fun _ => rfl)
  simp only [State.heldTags, h, hy, List.map_cons, List.count_append, List.count_cons, List.count_nil]
  omega

theorem accounts_tariff {y : TariffUnit} (h : s.tariff.inbox = x :: rest) (hy : y.inbox = rest) :
    s.Accounts [] { s with tariff := y } [x.tag] := by
  refine accounts_of_perm id rfl (List.perm_iff_count.mpr fun a => ?_) (queueLaw_same rfl fun _ => rfl)
  simp only [State.heldTags, h, hy, List.map_cons, List.count_append, List.count_cons, List.count_nil]
  omega

theorem accounts_laneTaken {l : Lane} (h : (s.lane l).inbox = x :: rest) :
    s.Accounts [] (s.laneTaken l rest) [x.tag] := by
  cases l with
  | a =>
    have ha : s.laneA.inbox = x :: rest := h
    refine accounts_of_perm id rfl (List.perm_iff_count.mpr fun a => ?_)
      (queueLaw_same rfl fun ⟨m, _⟩ => by cases m <;> rfl)
    simp only [State.heldTags, State.laneTaken, State.setLane, ha, List.map_cons, List.count_append, List.count_cons,
      List.count_nil]
    omega
  | b =>
    have hb : s.laneB.inbox = x :: rest := h
    refine accounts_of_perm id rfl (List.perm_iff_count.mpr fun a => ?_)
      (queueLaw_same rfl fun ⟨m, _⟩ => by cases m <;> rfl)
    simp only [State.heldTags, State.laneTaken, State.setLane, hb, List.map_cons, List.count_append, List.count_cons,
      List.count_nil]
    omega

theorem perm_nextRequest {w : Work} (h : s.nextRequest = some w) : s.sale.queue.Perm (w :: s.dequeued.sale.queue) := by
  unfold State.nextRequest at h
  split at h
  · exact nextWork_perm h
  · cases h

theorem accounts_host (h : s.nextRequest = some (.host x)) : s.Accounts [] s.dequeued [x.tag] := by
  have hperm := perm_nextRequest h
  refine accounts_of_perm id rfl (List.perm_iff_count.mpr fun a => ?_) (queueLaw_fewer hperm fun _ => rfl)
  have hcount := (hperm.filterMap Work.tag?).count_eq a
  rw [List.filterMap_cons_some (f := Work.tag?) rfl, List.count_cons] at hcount
  simp only [State.heldTags, State.dequeued, List.count_append, List.count_cons, List.count_nil] at hcount ⊢
  omega

/-- The entry of a station leaves the queue, and then the station's effects and its reply follow (R155). -/
theorem accounts_station {st : StationId} {n : Byte} {q : StationRequest} (h : s.nextRequest = some (.station st n q))
    (ht : Replied s.dequeued st n t) : s.Accounts [] t [] := by
  have hperm := perm_nextRequest h
  have hheld : s.heldTags.Perm s.dequeued.heldTags := by
    have hqueue := hperm.filterMap Work.tag?
    rw [List.filterMap_cons_none (f := Work.tag?) rfl] at hqueue
    exact (hqueue.append_left _).append_right _ |>.append_right _
  have htaken : s.Accounts [] s.dequeued [] := accounts_of_perm id rfl hheld (queueLaw_fewer hperm fun _ => rfl)
  refine ⟨(stands_replied ht).tagsWith ∘ htaken.tags, fun hlaw => ?_⟩
  refine queueLaw_replied (freeOf_iff.mpr ?_) ht (htaken.queue hlaw)
  have hnodup := (hperm.filterMap Work.station?).nodup_iff.mp hlaw.stations
  rw [List.filterMap_cons_some (f := Work.station?) rfl, List.nodup_cons] at hnodup
  exact hnodup.1

end Taken

end Places

end Sys2Proof.Machine

/-! PROOFS. Every command keeps the account of the host requests and the law of the work queue (O6). -/

namespace Sys2Proof.Machine

open Sys2Proof

section Operations

variable {s t u : State}

/-! ### The lanes -/

theorem leaves_endExchange (s : State) (l : Lane) (x : Exchange) (e : ExchangeEnd) :
    s.Leaves (s.endExchange l x e) := by
  have hclear : s.Leaves (s.clearExchange l x) := leaves_lane rfl rfl
  rw [endExchange_eq]
  refine hclear.trans (leaves_does ?_)
  rw [station_clearExchange]
  exact StationRecord.endDeed_queues _ e

theorem leaves_handDelivery (s : State) (st : StationId) (n : Option Nat) : s.Leaves (s.handDelivery st n) := by
  cases n with
  | none => exact .refl s
  | some k => exact leaves_sale rfl

/-- A lane that changes as a change of one of its stations does, in what is not its stations or its requests. -/
theorem leaves_setLane_station {l : Lane} {a : Fin 8} {r : StationRecord} {x : LaneControl}
    (hr : (s.station ⟨l, a⟩).Waits ⟨l, a⟩ s.sale.queue → r.Waits ⟨l, a⟩ s.sale.queue)
    (hx : x.inbox = (s.lane l).inbox) (hstations : x.stations = (s.lane l).stations.set a r) :
    s.Leaves (s.setLane l x) := by
  have hset : s.Leaves (s.setStation ⟨l, a⟩ r) := leaves_setStation hr
  have hlane : (s.setStation ⟨l, a⟩ r).Leaves ((s.setStation ⟨l, a⟩ r).setLane l x) := by
    refine leaves_lane ?_ ?_
    · rw [State.setStation, lane_setLane]
      exact hx
    · rw [State.setStation, lane_setLane]
      exact hstations
  have hboth := hset.trans hlane
  rwa [State.setStation, setLane_setLane] at hboth

theorem leaves_sendTo (s : State) (l : Lane) (a : Fin 8) (k : PollKind) : s.Leaves (s.sendTo l a k) := by
  refine State.Leaves.trans ?_ (leaves_handDelivery _ _ _)
  exact leaves_setLane_station (a := a) (fun h => h.polled) rfl rfl

theorem leaves_sendNext (s : State) (l : Lane) : s.Leaves (s.sendNext l) := by
  unfold State.sendNext
  split
  · exact leaves_sendTo s l _ _
  · exact leaves_lane rfl rfl

theorem station_setLane (s : State) (l : Lane) (x : LaneControl) (a : Fin 8) :
    (s.setLane l x).station ⟨l, a⟩ = x.stations.get a := by
  rw [State.station, lane_setLane]

theorem station_setLane_other (s : State) {l m : Lane} (hm : m ≠ l) (x : LaneControl) (a : Fin 8) :
    (s.setLane l x).station ⟨m, a⟩ = s.station ⟨m, a⟩ := by
  rw [State.station, lane_setLane_other s hm]
  rfl

/-- R149: a station made ABSENT keeps its outstanding request, orphaned. -/
theorem leaves_laneEntersOff (s : State) (l : Lane) : s.Leaves (s.laneEntersOff l) := by
  refine State.Leaves.trans ?_ (leaves_sale rfl)
  refine ⟨stands_setLane rfl, ?_⟩
  simp only [queueLaw_iff, State.setLane_sale]
  rintro ⟨hstations, hhost, hwaits⟩
  refine ⟨hstations, hhost, fun ⟨m, a⟩ => ?_⟩
  by_cases hm : m = l
  · subst hm
    rw [station_setLane, Eight.get_map]
    split
    · exact hwaits ⟨m, a⟩
    · exact (hwaits ⟨m, a⟩).madeAbsent
  · rw [station_setLane_other s hm]
    exact hwaits ⟨m, a⟩

theorem accounts_laneSet (s : State) (x : Handed) (l : Lane) (m : LaneMode) :
    s.Accounts [x.tag] (s.laneSet x l m) [] := by
  have moded (m : LaneMode) (p : Option (Fin 8)) :
      s.Leaves (s.setLane l { s.lane l with mode := m, position := p, waiting := none }) := leaves_lane rfl rfl
  unfold State.laneSet
  dsimp only
  split
  · exact accounts_reply ..
  · exact accounts_reply ..
  · exact accounts_reply ..
  · exact accounts_reply ..
  · exact (leaves_laneEntersOff s l).replied ..
  · exact (leaves_laneEntersOff s l).replied ..
  · exact (moded .paused _).replied ..
  · exact (moded .running _).replied ..
  · exact (moded .running _).replied ..

/-! ### The office line -/

theorem tags_host (x : Handed) : [Work.host x].filterMap Work.tag? = [x.tag] := rfl

theorem stations_host (x : Handed) : [Work.host x].filterMap Work.station? = [] := rfl

theorem hand_held (s : State) (o : Owner) (x : Handed) : (x.tag :: s.heldTags).Perm (s.hand o x).heldTags := by
  refine List.perm_iff_count.mpr fun a => ?_
  cases o with
  | lane l =>
    cases l <;>
      simp only [State.heldTags, State.hand, State.setLane, State.lane, List.map_append, List.map_cons, List.map_nil,
        List.count_append, List.count_cons, List.count_nil] <;> omega
  | saleEngine =>
    simp only [State.heldTags, State.hand, List.filterMap_append, tags_host, List.count_append, List.count_cons,
      List.count_nil]
    omega
  | decoder | tariff | clock | totals | hall =>
    simp only [State.heldTags, State.hand, List.map_append, List.map_cons, List.map_nil,
      List.count_append, List.count_cons, List.count_nil]
    omega

theorem hand_kept (s : State) (o : Owner) (x : Handed) : (s.hand o x).office = s.office ∧
    ((s.hand o x).started → s.started) := by
  cases o with
  | lane l => cases l <;> exact ⟨rfl, id⟩
  | saleEngine | decoder | tariff | clock | totals | hall => exact ⟨rfl, id⟩

theorem queueLaw_hand {o : Owner} {x : Handed} (hroom : (s.sale.queue.filterMap Work.tag?).length < 8) :
    s.QueueLaw → (s.hand o x).QueueLaw := by
  cases o with
  | lane l => exact queueLaw_lane rfl
  | decoder | tariff | clock | totals | hall => exact queueLaw_same rfl fun _ => rfl
  | saleEngine =>
    simp only [queueLaw_iff, State.hand, List.filterMap_append, tags_host, stations_host, List.append_nil,
      List.length_append, List.length_singleton]
    rintro ⟨hstations, -, hwaits⟩
    refine ⟨hstations, hroom, fun st => (hwaits st).mono fun n y hmem => ?_⟩
    simpa using hmem

/-- The tag of an admitted frame is outstanding. -/
def State.admits (s : State) (entry : TagEntry) : State :=
  { s with office := { s.office with tags := s.office.tags ++ [entry] } }

/-- R189: an admitted frame makes its tag outstanding, and its request waits in its block. -/
theorem accounts_takeRequest {f : TakenFrame} {reading : Option HostRequest} (hr : s.started) (h : s.TagsAccounted) :
    s.Accounts [] (s.takeRequest f reading) [] := by
  cases ha : s.office.admission f reading with
  | refused w entry =>
    rw [takeRequest_refused ha]
    split
    · refine State.Leaves.accounts ?_ _
      exact leaves_office rfl rfl rfl
    · exact .refl ..
  | admitted r owner =>
    obtain ⟨-, -, hroom, -⟩ := admission_admitted ha
    have hheld := h hr
    have hadmits : s.takeRequest f reading = (s.admits ⟨f.tag, f.kind, owner⟩).hand owner ⟨f.tag, r⟩ :=
      takeRequest_admitted ha
    obtain ⟨hoffice, -⟩ := hand_kept (s.admits ⟨f.tag, f.kind, owner⟩) owner ⟨f.tag, r⟩
    rw [hadmits]
    refine ⟨fun _ _ => ?_, queueLaw_hand ?_ ∘ queueLaw_same rfl fun _ => rfl⟩
    · rw [hoffice, State.admits, List.map_append, List.map_singleton]
      exact (List.perm_append_singleton _ _).trans
        ((hheld.cons _).trans (hand_held (s.admits ⟨f.tag, f.kind, owner⟩) owner ⟨f.tag, r⟩))
    · have hfew : (s.sale.queue.filterMap Work.tag?).length ≤ s.heldTags.length := by
        simp only [State.heldTags, List.length_append]
        omega
      have hlength := hheld.length_eq
      rw [List.length_map] at hlength
      show (s.sale.queue.filterMap Work.tag?).length < 8
      omega

theorem nextFrame_reply {o : OfficeLink} {r : TaggedReply} (h : o.nextFrame = some (.reply r)) :
    ∃ rest, o.replies = r :: rest := by
  unfold OfficeLink.nextFrame at h
  split at h
  · cases h
  next r' rest _ hreplies =>
    split at h
    · obtain rfl := OutFrame.reply.inj (Option.some.inj h)
      exact ⟨rest, hreplies⟩
    · cases h
  next r' rest _ hreplies =>
    obtain rfl := OutFrame.reply.inj (Option.some.inj h)
    exact ⟨rest, hreplies⟩
  · cases h
  · cases h

/-- R190: a frame leaves its queue as its sending begins. -/
theorem accounts_begin {f : OutFrame} (hline : s.office.sending = none) (hf : s.office.nextFrame = some f) :
    s.Accounts [] { s with office := s.office.begin f } [] := by
  cases f with
  | refusal r =>
    refine State.Leaves.accounts ?_ _
    exact leaves_office rfl rfl (by rw [hline]; rfl)
  | report r carried =>
    refine State.Leaves.accounts ?_ _
    exact leaves_office rfl rfl (by rw [hline]; rfl)
  | reply r =>
    obtain ⟨rest, hreplies⟩ := nextFrame_reply hf
    refine accounts_of_perm id rfl (List.perm_iff_count.mpr fun a => ?_) (queueLaw_same rfl fun _ => rfl)
    simp only [State.heldTags, OfficeLink.begin, hline, hreplies, List.tail_cons, Option.bind_some, Option.bind_none,
      Sending.tag?, Option.toList_none, Option.toList_some, List.map_cons, List.count_append, List.count_cons,
      List.count_nil]
    omega

/-- R189: a reply sent in full frees its tag, which no other request carries. -/
theorem accounts_sent {x : Sending} (hx : s.office.sending = some x) (ho : s.office.Within) (hr : s.started) :
    s.Accounts [] (s.sent x) [] := by
  cases hf : x.frame with
  | refusal r =>
    simp only [State.sent, hf]
    refine State.Leaves.accounts ?_ _
    exact leaves_office rfl rfl (by simp [OfficeLink.lineFree, hx, Sending.tag?, hf])
  | report r carried =>
    simp only [State.sent, hf]
    refine State.Leaves.accounts ?_ _
    exact leaves_office rfl rfl (by simp [OfficeLink.lineFree, hx, Sending.tag?, hf])
  | reply r =>
    have htags : (s.sent x).office.tags = s.office.tags.filter fun t => t.tag ≠ r.tag := by
      simp only [State.sent, hf]
      rfl
    refine ⟨fun h _ => ?_, queueLaw_same (by simp only [State.sent, hf]) fun st => by simp only [State.sent, hf]; rfl⟩
    have hsplit : s.heldTags.Perm (r.tag :: (s.sent x).heldTags) := by
      refine List.perm_iff_count.mpr fun a => ?_
      simp only [State.heldTags, State.sent, hf, OfficeLink.lineFree, hx, Option.bind_some, Option.bind_none,
        Sending.tag?, Option.toList_none, Option.toList_some, List.count_append, List.count_cons, List.count_nil]
      omega
    have hperm : (s.office.tags.map (·.tag)).Perm (r.tag :: (s.sent x).heldTags) := (h hr).trans hsplit
    obtain ⟨hfresh, -⟩ := List.nodup_cons.mp (hperm.nodup_iff.mp ho.distinct)
    have hkept : (s.sent x).heldTags.filter (fun a => a ≠ r.tag) = (s.sent x).heldTags := by
      refine List.filter_eq_self.mpr fun a ha => decide_eq_true ?_
      rintro rfl
      exact hfresh ha
    have hfilter := hperm.filter fun a => a ≠ r.tag
    rw [List.filter_map, List.filter_cons_of_neg (by simp), hkept] at hfilter
    rw [htags]
    exact hfilter

end Operations

end Sys2Proof.Machine

/-! PROOFS. Every command keeps the account of the host requests and the law of the work queue (O6). -/

namespace Sys2Proof.Machine

open Sys2Proof

section Operations

variable {s t u : State} {x : Handed} {rest : List Handed}

/-! ### The clock -/

theorem leaves_recompute (s : State) (cause : BoundaryCause) : s.Leaves (s.recompute cause) := by
  rw [recompute_eq]
  exact ⟨⟨id, rfl, rfl⟩, queueLaw_same rfl fun _ => rfl⟩

theorem leaves_runTimers (s : State) : s.Leaves s.runTimers := by
  unfold State.runTimers
  split
  · exact leaves_sale rfl
  · exact .refl s

theorem leaves_minuteAdvanced (s : State) : s.Leaves { s with clock := s.clock.minuteAdvanced } := by
  refine leaves_clock ?_
  unfold HallClock.minuteAdvanced
  split <;> rfl

theorem accounts_setClock (s : State) (x : Handed) (day minute : Nat) :
    s.Accounts [x.tag] (s.setClock x day minute) [] := by
  unfold State.setClock
  split
  · exact accounts_reply ..
  · split
    · exact accounts_reply ..
    · refine State.Leaves.replied (State.Leaves.trans ?_ (leaves_recompute _ _)) _ _
      exact leaves_clock rfl

theorem accounts_setPeriods (s : State) (x : Handed) (entries : List AskedPeriod) :
    s.Accounts [x.tag] (s.setPeriods x entries) [] := by
  unfold State.setPeriods
  split
  · exact accounts_reply ..
  · refine State.Leaves.replied (State.Leaves.trans ?_ (leaves_recompute _ _)) _ _
    exact leaves_clock rfl

/-! ### The decoder, the Tariff Unit and the journal -/

theorem release_inbox (j : JournalTotals) (n : Nat) : (j.release n).1.inbox = j.inbox := by
  unfold JournalTotals.release
  split <;> rfl

theorem accounts_decoderTakes (h : s.decoder.inbox = x :: rest) {f : Decoder → Decoder × HostReply}
    (hf : ∀ d : Decoder, (f d).1.inbox = d.inbox) : s.Accounts [] (s.decoderTakes x rest f) [] :=
  (accounts_decoder h (hf _)).trans (accounts_reply ..)

theorem accounts_tariffTakes (h : s.tariff.inbox = x :: rest) {f : TariffUnit → TariffUnit × HostReply}
    (hf : ∀ t : TariffUnit, (f t).1.inbox = t.inbox) : s.Accounts [] (s.tariffTakes x rest f) [] :=
  (accounts_tariff h (hf _)).trans (accounts_reply ..)

theorem takeItems_inbox (t : TariffUnit) (items : List PriceItem) : (t.takeItems items).1.inbox = t.inbox := by
  unfold TariffUnit.takeItems
  split
  · rfl
  · split
    · dsimp only
      split <;> rfl
    · rfl

theorem takeGroup_inbox (t : TariffUnit) (g : Nat) (f : GroupFigures) : (t.takeGroup g f).1.inbox = t.inbox := by
  unfold TariffUnit.takeGroup
  split
  · rfl
  · split <;> rfl

theorem finish_inbox (t : TariffUnit) (n : Nat) : (t.finish n).1.inbox = t.inbox := by
  unfold TariffUnit.finish
  split
  · split <;> rfl
  · rfl

theorem list_inbox (t : TariffUnit) (which : TariffSetName) (p : Nat) : (t.list which p).1.inbox = t.inbox := by
  unfold TariffUnit.list
  split <;> rfl

theorem leaves_swap (s : State) (cause : SwapCause) : s.Leaves (s.swap cause) := by
  unfold State.swap
  split
  · refine State.Leaves.trans ?_ (leaves_queueReport ..)
    exact leaves_tariff rfl
  · exact .refl s

/-! ### The Sale Engine and Hall Control -/

theorem accounts_creditOrder (s : State) (x : Handed) (id card amount : Nat) :
    s.Accounts [x.tag] (s.creditOrder x id card amount) [] := by
  unfold State.creditOrder
  dsimp only
  split
  · exact accounts_reply ..
  · split
    · exact accounts_reply ..
    · split
      · exact accounts_reply ..
      · refine State.Leaves.replied ?_ _ _
        exact leaves_sale rfl

theorem accounts_cancelCredit (s : State) (x : Handed) (id : Nat) : s.Accounts [x.tag] (s.cancelCredit x id) [] := by
  unfold State.cancelCredit
  split
  · exact accounts_reply ..
  · split
    · exact accounts_reply ..
    · refine State.Leaves.replied ?_ _ _
      exact leaves_sale rfl

theorem accounts_dismiss (s : State) (x : Handed) (card n : Nat) : s.Accounts [x.tag] (s.dismiss x card n) [] := by
  unfold State.dismiss
  split
  · exact accounts_reply ..
  · split
    · exact accounts_reply ..
    · exact (leaves_effect (Effect.start.endUnresolved _ _)).replied ..

theorem leaves_setReceiver (s : State) (r : Receiver) : s.Leaves (s.setReceiver r) := leaves_office rfl rfl rfl

theorem leaves_setClosing (s : State) (c : ClosingStart) : s.Leaves (s.setClosing c) := leaves_office rfl rfl rfl

theorem accounts_clearAll (s : State) (x : Handed) (id : Option Nat) : s.Accounts [x.tag] (s.clearAll x id) [] := by
  unfold State.clearAll
  split_ifs
  · exact accounts_reply ..
  · exact accounts_reply ..
  · exact accounts_reply ..
  · exact (leaves_setClosing ..).replied ..

theorem accounts_setHall (s : State) (x : Handed) (n : Nat) : s.Accounts [x.tag] (s.setHall x n) [] := by
  unfold State.setHall
  split_ifs
  · exact accounts_reply ..
  · exact accounts_reply ..
  · refine State.Leaves.replied ?_ _ _
    exact leaves_hall rfl id

theorem leaves_setMode (s : State) (m : HallMode) : s.Leaves (s.setMode m) := leaves_hall rfl id

theorem accounts_openHall (s : State) (x : Handed) : s.Accounts [x.tag] (s.openHall x) [] := by
  unfold State.openHall
  dsimp only
  split
  · exact (leaves_setMode ..).replied ..
  · exact accounts_reply ..

theorem accounts_suspendHall (s : State) (x : Handed) : s.Accounts [x.tag] (s.suspendHall x) [] := by
  unfold State.suspendHall
  split
  · exact (leaves_setMode ..).replied ..
  · exact accounts_reply ..

theorem accounts_resumeHall (s : State) (x : Handed) : s.Accounts [x.tag] (s.resumeHall x) [] := by
  unfold State.resumeHall
  split
  · exact (leaves_setMode ..).replied ..
  · exact accounts_reply ..

/-! ### The stops and the two starts -/

theorem queueLaw_stopTraffic (s : State) : s.QueueLaw → s.stopTraffic.QueueLaw :=
  queueLaw_same rfl fun ⟨l, _⟩ => by cases l <;> rfl

/-- A part that stands still from here. -/
theorem accounts_stopped {y : HallControl} (h : y.power = .retain ∨ y.resetHeld = true ∨ y.startDue ≠ none) :
    s.Accounts [] { s with hall := y } [] :=
  accounts_still (started_due s h) (queueLaw_same rfl fun _ => rfl)

theorem accounts_trafficStopped {y : HallControl} (h : y.power = .retain ∨ y.resetHeld = true ∨ y.startDue ≠ none) :
    s.Accounts [] { s.stopTraffic with hall := y } [] :=
  accounts_still (started_due _ h) (fun h => queueLaw_same (s := s.stopTraffic) rfl (fun _ => rfl) (queueLaw_stopTraffic s h))

/-- What the start makes ready holds no request and no tag. -/
theorem queueLaw_warmReady (s : State) : s.warmReady.QueueLaw := by
  refine queueLaw_iff.mpr ⟨List.nodup_nil, Nat.zero_le _, fun st => ?_⟩
  rw [station_warmReady]
  exact StationRecord.warmed_waits _

/-- R196: the warm start drops every request with its tag. -/
theorem accounts_warmStart (s : State) (cause : WarmCause) : s.Accounts [] (s.warmStart cause) [] := by
  have hmoved : s.warmReady.Leaves s.warmMoved := leaves_effect ((Effect.start.voidAll _).moveAll _)
  have hreported (u : State) (voided moved : Nat) : u.Leaves (u.warmReport cause voided moved) := by
    rw [warmReport_eq]
    exact leaves_office rfl rfl rfl
  have hstart : s.warmReady.Leaves (s.warmStart cause) := by
    rw [warmStart_eq]
    exact (hmoved.trans (hreported ..)).trans (leaves_recompute ..)
  exact ⟨fun _ => hstart.tagsWith (k := []) fun _ => .refl [], fun _ => hstart.queue (queueLaw_warmReady s)⟩

theorem accounts_coldStart (s : State) (byLatch : Bool) : s.Accounts [] (s.coldStart byLatch) [] :=
  ⟨fun _ _ => .refl [], fun _ => queueLaw_same (s := State.reset) rfl (fun _ => rfl) queueLaw_reset⟩

end Operations

/-! ### The commands -/

section Commands

variable {s t u : State}

theorem whenRunning_accounts (h : whenRunning s u = .next t) (hu : s.Accounts [] u []) : s.Accounts [] t [] := by
  rcases whenRunning_next h with ⟨-, rfl⟩ | ⟨-, rfl⟩
  · exact hu
  · exact .refl ..

theorem whenStarted_accounts (h : whenStarted s u = .next t) (hu : s.Accounts [] u []) : s.Accounts [] t [] := by
  rcases whenStarted_next h with ⟨-, rfl⟩ | ⟨-, rfl⟩
  · exact hu
  · exact .refl ..

theorem accounts_next (h : (.next u : Result) = .next t) (hu : s.Accounts [] u []) : s.Accounts [] t [] := by
  obtain rfl := Host.Outcome.next.inj h
  exact hu

/-- A lane answers a request, with a change of its own or of a station's record. -/
theorem accounts_laneReplied {l : Lane} {x : Handed} {rest : List Handed} (h : (s.lane l).inbox = x :: rest)
    {u : State} (hu : (s.laneTaken l rest).Leaves u) (r : HostReply) : s.Accounts [] (u.reply x r) [] :=
  (accounts_laneTaken h).trans (hu.replied ..)

/-- Every command keeps the account of the host requests, and the law of the work queue. -/
theorem exec_accounts {i : Instr} (ho : s.office.Within) (ht : s.TagsAccounted) (h : exec i s = .next t) :
    s.Accounts [] t [] := by
  cases i with
  | officeFrameReceived =>
    rcases whenRunning_next h with ⟨hr, rfl⟩ | ⟨-, rfl⟩
    · dsimp only
      split
      · exact (leaves_setReceiver ..).accounts _
      · refine ((leaves_setReceiver ..).accounts _).trans (accounts_takeRequest (running_iff_events.mp hr).1 ?_)
        exact (leaves_setReceiver ..).toStands.tagsWith (k := []) ht
    · exact .refl ..
  | frameSendStart =>
    refine whenRunning_accounts h ?_
    split
    next hline hf => exact accounts_begin hline hf
    · exact .refl ..
  | frameSentInFull =>
    rcases whenRunning_next h with ⟨hr, rfl⟩ | ⟨-, rfl⟩
    · split
      next hx => exact accounts_sent hx ho (running_iff_events.mp hr).1
      · exact .refl ..
    · exact .refl ..
  | officeStartMarker =>
    refine whenRunning_accounts h ?_
    split
    · exact (leaves_setReceiver ..).accounts _
    · exact .refl ..
  | officeByteGapTimeout => exact whenRunning_accounts h ((leaves_setReceiver ..).accounts _)
  | frameLengthOverLimit =>
    refine whenRunning_accounts h ?_
    split
    · split
      · exact (leaves_setReceiver ..).accounts _
      · exact .refl ..
    · exact .refl ..
  | saleOpen | reverse =>
    refine whenRunning_accounts h ?_
    split
    next hnext => exact accounts_station hnext (present_replied ..)
    · exact .refl ..
  | saleDone =>
    refine whenRunning_accounts h ?_
    split
    next hnext => exact accounts_station hnext (complete_replied _ _ _ (done_effect ..))
    · exact .refl ..
  | saleTorn =>
    refine whenRunning_accounts h ?_
    split
    next hnext => exact accounts_station hnext (complete_replied _ _ _ (torn_effect ..))
    · exact .refl ..
  | saleCancel =>
    refine whenRunning_accounts h ?_
    split
    next hnext => exact accounts_station hnext (complete_replied _ _ _ (cancelled_effect ..))
    · exact .refl ..
  | deliveryEvent =>
    refine whenRunning_accounts h ?_
    split
    · exact .refl ..
    · refine State.Leaves.accounts ?_ _
      exact leaves_sale rfl
  | writeTimerExpiry =>
    refine whenRunning_accounts h ?_
    split
    · exact (leaves_effect (Effect.start.moveToDoubt _ _)).accounts _
    · exact .refl ..
  | lossEvent =>
    refine whenRunning_accounts h ?_
    split
    · exact .refl ..
    · dsimp only
      split
      · refine State.Leaves.accounts (State.Leaves.trans ?_ (leaves_effect (Effect.start.takeLoss _ _))) _
        exact leaves_sale rfl
      · refine State.Leaves.accounts ?_ _
        exact leaves_sale rfl
  | creditOrder =>
    refine whenRunning_accounts h ?_
    split
    next hnext => exact (accounts_host hnext).trans (accounts_creditOrder ..)
    · exact .refl ..
  | cancelCredit =>
    refine whenRunning_accounts h ?_
    split
    next hnext => exact (accounts_host hnext).trans (accounts_cancelCredit ..)
    · exact .refl ..
  | queryCredits | queryCard | doubtList | saleList =>
    refine whenRunning_accounts h ?_
    split
    next hnext => exact (accounts_host hnext).trans (accounts_reply ..)
    · exact .refl ..
  | writeTimerSet =>
    refine whenRunning_accounts h ?_
    split
    next hnext =>
      refine (accounts_host hnext).trans (State.Leaves.replied ?_ _ _)
      exact leaves_sale rfl
    · exact .refl ..
  | doubtDismiss =>
    refine whenRunning_accounts h ?_
    split
    next hnext => exact (accounts_host hnext).trans (accounts_dismiss ..)
    · exact .refl ..
  | stopAdd | stopRemove | stopList | rangeSet | rangeClear | rangeDefault =>
    refine whenRunning_accounts h ?_
    split
    next hinbox =>
      refine accounts_decoderTakes hinbox fun d => ?_
      simp only [Decoder.stopAdd, Decoder.stopRemove, Decoder.stopList, Decoder.rangeSet, Decoder.rangeClear,
        Decoder.rangeDefault]
      split <;> rfl
    · exact .refl ..
  | stopClear | rangeList | classQuery =>
    refine whenRunning_accounts h ?_
    split
    next hinbox => exact accounts_decoderTakes hinbox fun _ => rfl
    · exact .refl ..
  | tariffBegin =>
    refine whenRunning_accounts h ?_
    split
    next hinbox => exact accounts_tariffTakes hinbox fun _ => rfl
    · exact .refl ..
  | tariffItems =>
    refine whenRunning_accounts h ?_
    split
    next hinbox => exact accounts_tariffTakes hinbox fun _ => takeItems_inbox ..
    · exact .refl ..
  | tariffGroup =>
    refine whenRunning_accounts h ?_
    split
    next hinbox => exact accounts_tariffTakes hinbox fun _ => takeGroup_inbox ..
    · exact .refl ..
  | tariffEnd =>
    refine whenRunning_accounts h ?_
    split
    next hinbox => exact accounts_tariffTakes hinbox fun _ => finish_inbox ..
    · exact .refl ..
  | tariffList =>
    refine whenRunning_accounts h ?_
    split
    next hinbox => exact accounts_tariffTakes hinbox fun _ => list_inbox ..
    · exact .refl ..
  | tariffSwapNow =>
    refine whenRunning_accounts h ?_
    split
    next hinbox =>
      dsimp only
      split
      · exact (accounts_tariff hinbox rfl).trans ((leaves_swap ..).replied ..)
      · exact (accounts_tariff hinbox rfl).trans (accounts_reply ..)
    · exact .refl ..
  | tariffBoundarySwap =>
    refine whenStarted_accounts h ?_
    split
    · refine State.Leaves.accounts (State.Leaves.trans ?_ (leaves_swap ..)) _
      exact leaves_tariff rfl
    · exact .refl ..
  | setClock =>
    refine whenRunning_accounts h ?_
    split
    next hinbox => exact (accounts_clockTaken hinbox).trans (accounts_setClock ..)
    · exact .refl ..
  | setPeriods =>
    refine whenRunning_accounts h ?_
    split
    next hinbox => exact (accounts_clockTaken hinbox).trans (accounts_setPeriods ..)
    · exact .refl ..
  | clockRead =>
    refine whenRunning_accounts h ?_
    split
    next hinbox => exact (accounts_clockTaken hinbox).trans (accounts_reply ..)
    · exact .refl ..
  | secondsCountAdvance =>
    refine accounts_next h ?_
    split
    · exact (leaves_runTimers s).accounts _
    next hset =>
      split
      · refine State.Leaves.accounts (State.Leaves.trans ?_ (leaves_runTimers _)) _
        exact leaves_clock rfl
      · exact .refl ..
  | minuteAdvance =>
    refine accounts_next h ?_
    dsimp only
    split
    · split
      · exact (((leaves_minuteAdvanced s).trans (leaves_runTimers _)).trans (leaves_recompute ..)).accounts _
      · exact (leaves_minuteAdvanced s).accounts _
    · exact .refl ..
  | journalFetch | dayClose =>
    refine whenRunning_accounts h ?_
    split
    next hinbox => exact (accounts_totals hinbox rfl).trans (accounts_reply ..)
    · exact .refl ..
  | journalRelease =>
    refine whenRunning_accounts h ?_
    split
    next hinbox => exact (accounts_totals hinbox (release_inbox ..)).trans (accounts_reply ..)
    · exact .refl ..
  | totalsRead =>
    refine whenRunning_accounts h ?_
    split
    next hinbox => exact (accounts_totals hinbox rfl).trans (accounts_reply ..)
    next hinbox => exact (accounts_totals hinbox rfl).trans (accounts_reply ..)
    · exact .refl ..
  | periodCounterCapture =>
    refine whenStarted_accounts h ?_
    split
    · refine State.Leaves.accounts (State.Leaves.trans ?_ (leaves_queueReport ..)) _
      exact leaves_totals rfl
    · exact .refl ..
  | status =>
    refine whenRunning_accounts h ?_
    split
    next hinbox => exact (accounts_hallTaken hinbox).trans (accounts_reply ..)
    · exact .refl ..
  | softReset =>
    refine whenRunning_accounts h ?_
    split
    next hinbox => exact (accounts_hallTaken hinbox).trans ((leaves_setClosing ..).replied ..)
    · exact .refl ..
  | clearAll =>
    refine whenRunning_accounts h ?_
    split
    next hinbox => exact (accounts_hallTaken hinbox).trans (accounts_clearAll ..)
    · exact .refl ..
  | setHall =>
    refine whenRunning_accounts h ?_
    split
    next hinbox => exact (accounts_hallTaken hinbox).trans (accounts_setHall ..)
    · exact .refl ..
  | openHall =>
    refine whenRunning_accounts h ?_
    split
    next hinbox => exact (accounts_hallTaken hinbox).trans (accounts_openHall ..)
    · exact .refl ..
  | suspend =>
    refine whenRunning_accounts h ?_
    split
    next hinbox => exact (accounts_hallTaken hinbox).trans (accounts_suspendHall ..)
    · exact .refl ..
  | resume =>
    refine whenRunning_accounts h ?_
    split
    next hinbox => exact (accounts_hallTaken hinbox).trans (accounts_resumeHall ..)
    · exact .refl ..
  | laneSet =>
    refine whenRunning_accounts h ?_
    split
    next hinbox => exact (accounts_laneTaken hinbox).trans (accounts_laneSet ..)
    · exact .refl ..
  | laneSettings =>
    refine whenRunning_accounts h ?_
    split
    next hinbox =>
      dsimp only
      split
      · refine accounts_laneReplied hinbox ?_ _
        exact leaves_lane rfl rfl
      · exact accounts_laneReplied hinbox (.refl _) _
    · exact .refl ..
  | enroll =>
    refine whenRunning_accounts h ?_
    split
    next hinbox =>
      dsimp only
      split
      · refine accounts_laneReplied hinbox ?_ _
        exact leaves_setStation fun hw => hw.alike ⟨rfl, rfl, by simp⟩
      · exact accounts_laneReplied hinbox (.refl _) _
    next hinbox => exact accounts_laneReplied hinbox (.refl _) _
    · exact .refl ..
  | restore =>
    refine whenRunning_accounts h ?_
    split
    next hinbox =>
      dsimp only
      split
      · refine accounts_laneReplied hinbox ?_ _
        exact leaves_setStation fun hw => hw.alike ⟨rfl, rfl, by simp⟩
      · exact accounts_laneReplied hinbox (.refl _) _
    next hinbox => exact accounts_laneReplied hinbox (.refl _) _
    · exact .refl ..
  | release =>
    refine whenRunning_accounts h ?_
    split
    next hinbox =>
      dsimp only
      split
      · exact accounts_laneReplied hinbox (.refl _) _
      · exact accounts_laneReplied hinbox (.refl _) _
      · exact accounts_laneReplied hinbox (.refl _) _
      · split
        · exact accounts_laneReplied hinbox (.refl _) _
        · exact accounts_laneReplied hinbox (leaves_setStation fun hw => hw.madeAbsent) _
    next hinbox => exact accounts_laneReplied hinbox (.refl _) _
    · exact .refl ..
  | clearStationErrors =>
    refine whenRunning_accounts h ?_
    split
    next hinbox =>
      refine accounts_laneReplied hinbox ?_ _
      exact leaves_setStation fun hw => hw.alike ⟨rfl, rfl, id⟩
    next hinbox => exact accounts_laneReplied hinbox (.refl _) _
    · exact .refl ..
  | clearLineStuck =>
    refine whenRunning_accounts h ?_
    split
    next hinbox =>
      refine accounts_laneReplied hinbox ?_ _
      exact leaves_lane rfl rfl
    · exact .refl ..
  | laneRead =>
    refine whenRunning_accounts h ?_
    split
    next hinbox => exact accounts_laneReplied hinbox (.refl _) _
    · exact .refl ..
  | sendPoll l =>
    refine whenRunning_accounts h ?_
    dsimp only
    split
    · exact (leaves_sendNext s l).accounts _
    · exact .refl ..
  | laneAnswer l =>
    refine whenRunning_accounts h ?_
    split
    · exact .refl ..
    · dsimp only
      split
      · exact (leaves_endExchange ..).accounts _
      · refine State.Leaves.accounts ?_ _
        exact leaves_lane rfl rfl
  | answerTimeout l =>
    refine whenRunning_accounts h ?_
    split
    · exact .refl ..
    · exact (leaves_endExchange ..).accounts _
  | lineStuck l =>
    refine whenRunning_accounts h ?_
    dsimp only
    split
    · have waits (p : Fin 8 × PollKind) :
          s.Leaves (s.setLane l { s.lane l with lineStuck := true, waiting := some p }) := leaves_lane rfl rfl
      split
      · exact .refl ..
      · split
        · exact (waits _).accounts _
        · exact ((waits _).trans (leaves_queueReport ..)).accounts _
    · exact .refl ..
  | lineIdleResume l =>
    refine whenRunning_accounts h ?_
    dsimp only
    split
    · split
      · exact (leaves_sendTo ..).accounts _
      · exact .refl ..
    · exact .refl ..
  | mainSupplyLoss =>
    refine accounts_next h ?_
    split
    · exact accounts_trafficStopped (.inl rfl)
    · exact .refl ..
  | mainSupplyReturn =>
    refine accounts_next h ?_
    split
    · exact .refl ..
    · exact accounts_stopped (.inr (.inr nofun))
  | backupFailure =>
    refine accounts_next h (State.Leaves.accounts ?_ _)
    exact leaves_hall rfl id
  | resetLineAssert =>
    refine accounts_next h ?_
    split
    · exact .refl ..
    · split
      · exact accounts_trafficStopped (.inr (.inl rfl))
      · exact accounts_stopped (.inr (.inl rfl))
  | resetLineRelease =>
    refine accounts_next h ?_
    split
    · refine accounts_stopped ?_
      unfold HallControl.releaseLine
      split
      · exact .inr (.inr nofun)
      next hpower => exact .inl hpower
    · exact .refl ..
  | warmStart =>
    refine accounts_next h ?_
    split
    · exact accounts_warmStart ..
    · exact .refl ..
  | coldStart =>
    refine accounts_next h ?_
    split
    · exact accounts_coldStart ..
    · exact .refl ..

end Commands

/-- Settles O6: every command accounts for the requests it takes, answers or leaves. -/
theorem tagsAccountedKept : Obligations.TagsAccountedKept := by
  intro s t ho ht hstep
  unfold step at hstep
  split at hstep
  · obtain rfl := Host.Outcome.next.inj hstep
    exact ⟨ht, id⟩
  next c rest _ =>
    have hkept := exec_accounts (s := { s with pending := rest }) ho ht hstep
    exact ⟨hkept.tags ht, fun hq => hkept.queue (queueLaw_same (s := s) rfl (fun _ => rfl) hq)⟩

end Sys2Proof.Machine
